-- ==== Sys2Proof/Word.lean ====
section
/-! DEFINITION. The one word type of the part: a byte of a link frame (R170). Every larger quantity is a plain
number; the byte order that joins bytes stands in Machine/Operands.lean. -/

namespace Sys2Proof

/-- One byte of a frame body. -/
abbrev Byte := BitVec 8

end Sys2Proof
end

