-- ==== Sys2Proof/Syntax.lean ====
section
/-! DEFINITION. The commands the part takes, one constructor for each row of spec/opcode_table.json, with their
operands as the links, the pins and the timers give them. -/

namespace Sys2Proof

/-- The four motions, which are also the four shaping channels (section 0.6). -/
inductive Motion where
  | hoist | drag | swing | walk
deriving DecidableEq, Repr

/-- The five tracked axes (section 0.6). -/
inductive Axis where
  | hoist | drag | swing | camL | camR
deriving DecidableEq, Repr

/-- The three link ports (section 0.3). -/
inductive Port where
  | cab | drive | monitor
deriving DecidableEq, Repr

/-- The two addresses the monitor port takes: its station address, or the broadcast address 0xFF (R172). -/
inductive Dest where
  | station | broadcast
deriving DecidableEq, Repr

/-- The four cadence generators (R153). -/
inductive GenId where
  | fastLamp | slowLamp | horn | beacon
deriving DecidableEq, Repr

/-- The commands. A monitor request row carries the address the request came to and its body bytes (R182); the row's
kind byte is fixed by the row. `straps` is the number on the four strap inputs at the moment a reset reads them. -/
inductive Instr where
  /-- Supply is applied (R167). -/
  | powerOn (straps : Fin 16)
  /-- The reset line is asserted (R167). -/
  | lineResetAssert (straps : Fin 16)
  /-- The reset line is released (R167). -/
  | lineResetRelease
  /-- 10 ms of machine time have passed (R160). -/
  | machineTimeTick
  /-- A CAB_COMMAND addressed to the cab port closes; its body bytes (R174, R181). -/
  | cabCommand (body : List Byte)
  /-- A DRIVE_FEEDBACK addressed to the drive port closes; its body bytes (R176, R181). -/
  | driveFeedback (body : List Byte)
  /-- A frame that fails a check ends on a port (R171): the bits on the port's line, in the order received, from before the
  flag that opens the frame through the flag or the abort that ends it (R170). -/
  | frameCheckFailed (port : Port) (line : List Bool)
  /-- A frame that passes the link checks closes on the monitor port (R172). -/
  | monitorFrameReceived (address kind : Byte) (body : List Byte)
  /-- The sending of the monitor response completes (R177). -/
  | monitorResponseSent (straps : Fin 16)
  /-- A request of unknown kind is taken (R178). -/
  | unknownKind (dest : Dest) (kind : Byte) (body : List Byte)
  /-- A request whose body does not match its kind is taken (R178). -/
  | badFormat (dest : Dest) (kind : Byte) (body : List Byte)
  | tableWriteChannel (dest : Dest) (body : List Byte)
  | tableWriteZones (dest : Dest) (body : List Byte)
  | tableWriteWalkPhases (dest : Dest) (body : List Byte)
  | tableWriteAlarmDef (dest : Dest) (body : List Byte)
  | tableWriteLampMap (dest : Dest) (body : List Byte)
  | tableWritePattern (dest : Dest) (body : List Byte)
  | tableWriteAxis (dest : Dest) (body : List Byte)
  | tableWriteMachine (dest : Dest) (body : List Byte)
  | tableRead (dest : Dest) (body : List Byte)
  | statusRead (dest : Dest) (body : List Byte)
  | alarmListRead (dest : Dest) (body : List Byte)
  | tripRecordRead (dest : Dest) (body : List Byte)
  | peakRead (dest : Dest) (body : List Byte)
  | linkCountersRead (dest : Dest) (body : List Byte)
  | go (dest : Dest) (body : List Byte)
  /-- The settle timer of the CHECK procedure expires (R163). -/
  | settleTimerExpiry
  | abortCheck (dest : Dest) (body : List Byte)
  | stopRun (dest : Dest) (body : List Byte)
  /-- The test timer of READY expires (R165). -/
  | testTimerExpiry
  | alarmAck (dest : Dest) (body : List Byte)
  | alarmReset (dest : Dest) (body : List Byte)
  | alarmShelve (dest : Dest) (body : List Byte)
  | alarmUnshelve (dest : Dest) (body : List Byte)
  /-- Machine time reaches an alarm's shelved-until (R143). -/
  | shelvingExpiry (n : Fin 64)
  | holdSet (dest : Dest) (body : List Byte)
  | holdClear (dest : Dest) (body : List Byte)
  | lampDark (dest : Dest) (body : List Byte)
  | positionSet (dest : Dest) (body : List Byte)
  | restart (dest : Dest) (body : List Byte) (straps : Fin 16)
  /-- The sending of a CAB_STATUS completes (R174). -/
  | cabStatusTxDone
  /-- The cab freshness timer expires (R175). -/
  | cabLinkLost
  /-- The drive freshness timer expires (R175). -/
  | driveLinkLost
  /-- The reference timer of the drive port expires (R176). -/
  | driveReference
  /-- A channel's sample timer expires (R42). -/
  | channelSample (m : Motion)
  | releaseTimerExpiry (m : Motion)
  | holdTimerExpiry (m : Motion)
  | setTimerExpiry (m : Motion)
  | stallTimerExpiry
  | warningTimerExpiry
  | validityTimerExpiry
  /-- An alarm's delay timer expires (R134). -/
  | alarmDelayExpiry (n : Fin 64)
  /-- A cadence generator reaches the end of its half (R153). -/
  | cadenceHalfExpiry (g : GenId)
deriving DecidableEq, Repr

end Sys2Proof
end

