-- ==== Sys2Proof/Machine/State.lean ====
section
/-! DEFINITION. The state of the part as plain data, block by block, the state after reset, and the reasons a step can
stop. Items that a rule derives from other items at every moment (permit states, effective caps, lamp states, outputs)
are functions of State in Machine/Flags.lean, not fields. -/

namespace Sys2Proof.Machine
open Sys2Proof

/-! ### Collections with one member for each motion, axis, generator or pattern -/

/-- One item for each motion. -/
structure PerMotion (α : Type) where
  hoist : α
  drag : α
  swing : α
  walk : α
deriving DecidableEq, Repr

/-- One item for each axis. -/
structure PerAxis (α : Type) where
  hoist : α
  drag : α
  swing : α
  camL : α
  camR : α
deriving DecidableEq, Repr

/-- One item for each cadence generator. -/
structure PerGen (α : Type) where
  fastLamp : α
  slowLamp : α
  horn : α
  beacon : α
deriving DecidableEq, Repr

def PerMotion.get {α : Type} (p : PerMotion α) : Motion → α
  | .hoist => p.hoist
  | .drag => p.drag
  | .swing => p.swing
  | .walk => p.walk

def PerMotion.set {α : Type} (p : PerMotion α) (m : Motion) (a : α) : PerMotion α :=
  match m with
  | .hoist => { p with hoist := a }
  | .drag => { p with drag := a }
  | .swing => { p with swing := a }
  | .walk => { p with walk := a }

def PerMotion.replicate {α : Type} (a : α) : PerMotion α := ⟨a, a, a, a⟩

def PerMotion.map {α β : Type} (f : α → β) (p : PerMotion α) : PerMotion β :=
  ⟨f p.hoist, f p.drag, f p.swing, f p.walk⟩

def PerAxis.get {α : Type} (p : PerAxis α) : Axis → α
  | .hoist => p.hoist
  | .drag => p.drag
  | .swing => p.swing
  | .camL => p.camL
  | .camR => p.camR

def PerAxis.set {α : Type} (p : PerAxis α) (x : Axis) (a : α) : PerAxis α :=
  match x with
  | .hoist => { p with hoist := a }
  | .drag => { p with drag := a }
  | .swing => { p with swing := a }
  | .camL => { p with camL := a }
  | .camR => { p with camR := a }

def PerAxis.replicate {α : Type} (a : α) : PerAxis α := ⟨a, a, a, a, a⟩

def PerAxis.map {α β : Type} (f : α → β) (p : PerAxis α) : PerAxis β :=
  ⟨f p.hoist, f p.drag, f p.swing, f p.camL, f p.camR⟩

def PerGen.get {α : Type} (p : PerGen α) : GenId → α
  | .fastLamp => p.fastLamp
  | .slowLamp => p.slowLamp
  | .horn => p.horn
  | .beacon => p.beacon

def PerGen.set {α : Type} (p : PerGen α) (g : GenId) (a : α) : PerGen α :=
  match g with
  | .fastLamp => { p with fastLamp := a }
  | .slowLamp => { p with slowLamp := a }
  | .horn => { p with horn := a }
  | .beacon => { p with beacon := a }

def PerGen.map {α β : Type} (f : α → β) (p : PerGen α) : PerGen β :=
  ⟨f p.fastLamp, f p.slowLamp, f p.horn, f p.beacon⟩

/-! ### Timers -/

/-- A running timer: the units of 10 ms counted since its start, and the value it was started under (R67, R68). A stopped
timer is `none` where a timer is an `Option Timer`. -/
structure Timer where
  elapsed : Nat
  limit : Nat
deriving DecidableEq, Repr

/-! ### The motion authority table (R1, R2) -/

/-- The three masters, each the source of a hold (R2). -/
inductive Master where
  | cab | drive | monitor
deriving DecidableEq, Repr

/-- The source ids of kind INTERLOCK, in the order of R2. -/
inductive Interlock where
  | walkEngaged | tubLifted | steerLimit | plugging | notSelected
  | bucketNotGrounded | swingOutOfWindow | brakesNotSet | warningIncomplete
deriving DecidableEq, Repr

/-- The source of a reason entry: its source kind with its source id (R2). -/
inductive Source where
  | alarm (n : Fin 64)
  | hold (master : Master)
  | interlock (i : Interlock)
  | notRunning
deriving DecidableEq, Repr

/-- The direction a cap covers (R2). -/
inductive CapDir where
  | pos | neg | both
deriving DecidableEq, Repr

/-- The two directions of a motion (section 0.6). -/
inductive Dir where
  | pos | neg
deriving DecidableEq, Repr

/-- The effect of an entry; the cap value and direction are present for CAP only (R2). -/
inductive Effect where
  | cap (value : Nat) (dir : CapDir)
  | stop
  | trip
deriving DecidableEq, Repr

structure Reason where
  source : Source
  effect : Effect
deriving DecidableEq, Repr

/-- The permit states (R7). -/
inductive Permit where
  | free | capped | stopped | tripped
deriving DecidableEq, Repr

/-- One motion record: the reason set, oldest first, and the two zone caps (R1). -/
structure Record where
  reasons : List Reason
  zonePos : Nat
  zoneNeg : Nat
deriving DecidableEq, Repr

/-- One zone (R11, R12). A linear zone carries no walk window; the field is false there. -/
structure Zone where
  start : Nat
  capPos : Nat
  capNeg : Nat
  window : Bool
deriving DecidableEq, Repr

/-- The three zone tables; an empty list is an empty table (R13). -/
structure ZoneTables where
  hoist : List Zone
  drag : List Zone
  swing : List Zone
deriving DecidableEq, Repr

/-! ### Position tracking (R25, R26) -/

inductive Polarity where
  | normal | inverted
deriving DecidableEq, Repr

/-- The AXIS table of one axis (R14, R26). Fields not carried by the axis's kind stay at their reset values. -/
structure AxisParams where
  polarity : Polarity
  maxDelta : Nat
  u : Nat
  v : Nat
  n : Nat
  markPos : Nat
  lookahead : Nat
  slope : Nat
deriving DecidableEq, Repr

/-- The tracking state of one axis (R25). `jumped` is POSITION_JUMP(axis). -/
structure Track where
  lastRaw : Nat
  lastRef : Bool
  acc : Int
  base : Nat
  pos : Nat
  referenced : Bool
  jumps : Nat
  jumped : Bool
  overRange : Bool
deriving DecidableEq, Repr

structure Tracker where
  axes : PerAxis Track
  countsBased : Bool
deriving DecidableEq, Repr

/-! ### Reference shaping (R41, R43, R44) -/

/-- One term of a coefficient record: sign and exponent (R43). -/
structure Term where
  minus : Bool
  exp : Nat
deriving DecidableEq, Repr

/-- The CHANNEL table (R44): deadband, gain record, eight filter taps h0..h7, and the three rate steps. -/
structure ChannelParams where
  db : Nat
  gain : List Term
  taps : List (List Term)
  aUp : Nat
  aDown : Nat
  aStop : Nat
deriving DecidableEq, Repr

/-- One shaping channel (R41). `history` is newest first. -/
structure Channel where
  params : ChannelParams
  latched : Int
  armed : Bool
  history : List Int
  y : Int
  c : Int
  r : Int
  demand : Bool
  peak : Nat
  sats : Nat
  sampleTimer : Timer
deriving DecidableEq, Repr

/-! ### Brake sequencing (R67, R68) -/

inductive BrakeState where
  | set | releasing | released | setting
deriving DecidableEq, Repr

/-- One brake sequencer (R67). -/
structure Brake where
  state : BrakeState
  releaseTimer : Option Timer
  setTimer : Option Timer
  holdTimer : Option Timer
  lastReleased : Bool
  lastSpeed : Int
  releaseFail : Bool
  setFail : Bool
deriving DecidableEq, Repr

structure BrakeParams where
  tRel : Nat
  tSet : Nat
  tHold : Nat
  vRest : Nat
deriving DecidableEq, Repr

/-- The MACHINE table (R68, R80, R95, R109, R179). -/
structure MachineParams where
  brakes : PerMotion BrakeParams
  tlTorque : Nat
  hoistTopLimit : Nat
  dragInLimit : Nat
  groundPayout : Nat
  slackTorque : Nat
  vPlug : Nat
  plugCap : Nat
  steerCap : Nat
  syncTol : Nat
  syncFault : Nat
  kTrim : Nat
  stallTime : Nat
  warnTime : Nat
  warnValid : Nat
  creepCap : Nat
deriving DecidableEq, Repr

/-! ### The supervisors (R79, R94) -/

structure HoistDrag where
  hoistTorque : Int
  dragTorque : Int
  tightLine : Bool
  hoistOvertravel : Bool
  dragOvertravel : Bool
  grounded : Bool
  evaluated : Bool
deriving DecidableEq, Repr

structure SwingSup where
  speed : Int
  target : Int
  plugging : Bool
  window : Bool
  tubLifted : Bool
  steering : Bool
  beaconRequest : Bool
deriving DecidableEq, Repr

/-! ### Walking (R108, R110) -/

/-- The six phases of a walking step (R110). -/
inductive Phase where
  | raised | lowering | lifting | stepping | settingDown | raising
deriving DecidableEq, Repr

/-- One row of the walk phase table: the boundary at which the phase begins and the phase's caps (R110). -/
structure PhaseRow where
  bound : Nat
  capPos : Nat
  capNeg : Nat
deriving DecidableEq, Repr

/-- The walk phase table, one row for each phase (R110). -/
structure PhaseTable where
  raised : PhaseRow
  lowering : PhaseRow
  lifting : PhaseRow
  stepping : PhaseRow
  settingDown : PhaseRow
  raising : PhaseRow
deriving DecidableEq, Repr

inductive Pending where
  | none | forward | reverse
deriving DecidableEq, Repr

inductive Selection where
  | deselected | selected | deselectPending
deriving DecidableEq, Repr

inductive Warning where
  | cleared | sounding | complete
deriving DecidableEq, Repr

inductive Gate where
  | opened | closed
deriving DecidableEq, Repr

/-- What the walk sequencer holds for one cam (R108): its phase or none, its last progress or absent, its pending. -/
structure Cam where
  phase : Option Phase
  progress : Option Nat
  pending : Pending
deriving DecidableEq, Repr

/-- The walk sequencer (R108). `diff` is D. -/
structure Walk where
  table : Option PhaseTable
  left : Cam
  right : Cam
  diff : Option Int
  walkL : Int
  walkR : Int
  sync : Bool
  stall : Bool
  steps : Int
  stallTimer : Option Timer
  stallBase : Nat
  selection : Selection
  lastSelect : Option Bool
  warning : Warning
  warnTimer : Option Timer
  validTimer : Option Timer
  hornRequest : Bool
  grantHeld : Bool
  gate : Gate
deriving DecidableEq, Repr

/-! ### Alarms (R129, R130, R131, R142) -/

/-- The source of an alarm definition (R131). -/
inductive AlarmSource where
  | internal (c : Fin 20)
  | driveInput (i : Fin 32)
  | cabInput (i : Fin 16)
deriving DecidableEq, Repr

inductive AlarmPolarity where
  | activeTrue | activeFalse
deriving DecidableEq, Repr

/-- The class of an alarm; the slow cap is present for SLOW only (R131). -/
inductive AlarmClass where
  | advisory
  | slow (cap : Nat)
  | stop
  | trip
deriving DecidableEq, Repr

/-- One alarm definition (R131). `motions` holds one bit for each motion; `delayOn` is in tenths of a second. -/
structure AlarmDef where
  source : AlarmSource
  polarity : AlarmPolarity
  cls : AlarmClass
  motions : PerMotion Bool
  delayOn : Nat
  latching : Bool
  horn : Bool
deriving DecidableEq, Repr

inductive AlarmState where
  | normal | raised | held | returned | latched
deriving DecidableEq, Repr

/-- One runtime record (R130). The slot's first-out mark is `AlarmProc.firstOut`. -/
structure AlarmRun where
  state : AlarmState
  raw : Bool
  filtered : Bool
  delay : Option Timer
  count : Nat
  lastRaise : Option (BitVec 32)
  shelvedUntil : Option (BitVec 32)
deriving DecidableEq, Repr

structure TripRecord where
  alarm : Fin 64
  time : BitVec 32
  refs : PerMotion Int
  positions : PerAxis Nat
deriving DecidableEq, Repr

/-- The three cab buttons of the alarm processor (R136). -/
structure Buttons where
  ack : Bool
  reset : Bool
  silence : Bool
deriving DecidableEq, Repr

/-- The alarm processor (R129). The inputs of a port are `none` until its first valid frame since the reset. -/
structure AlarmProc where
  defs : Vector (Option AlarmDef) 64
  runs : Vector AlarmRun 64
  internals : BitVec 20
  driveInputs : Option (BitVec 32)
  cabInputs : Option (BitVec 16)
  active : List (Fin 64)
  firstOut : Option (Fin 64)
  trip : Option TripRecord
  silence : Bool
  hornRequest : Bool
  lastButtons : Option Buttons
deriving DecidableEq, Repr

/-! ### The annunciator (R148, R152, R153, R156) -/

inductive PatternId where
  | alarm | walk | operator | beacon | fast | slow
deriving DecidableEq, Repr

/-- A cadence pattern (R152). -/
structure Pattern where
  onCount : Nat
  offCount : Nat
  scale : Nat
  steady : Bool
deriving DecidableEq, Repr

structure Patterns where
  alarm : Pattern
  walk : Pattern
  operator : Pattern
  beacon : Pattern
  fast : Pattern
  slow : Pattern
deriving DecidableEq, Repr

/-- A cadence generator (R153): running or stopped, its half, and its half timer. -/
structure Gen where
  running : Bool
  onHalf : Bool
  half : Option Timer
deriving DecidableEq, Repr

/-- The requesters of the horn (R156). -/
inductive Requester where
  | alarm | walk | operator
deriving DecidableEq, Repr

inductive LampState where
  | off | steady | slow | fast
deriving DecidableEq, Repr

structure Annunciator where
  lampMap : Vector (List (Fin 64)) 48
  lampTest : Bool
  lampDark : Bool
  patterns : Patterns
  gens : PerGen Gen
  operatorRequest : Bool
  grant : Option Requester
deriving DecidableEq, Repr

/-! ### The mode controller (R160) -/

inductive Mode where
  | config | check | ready | lockout
deriving DecidableEq, Repr

/-- The item a completeness shortfall reports (R162). -/
inductive IncompleteItem where
  | zonesHoist | zonesDrag | zonesSwing | walkPhases
  | unwatched (c : Fin 20)
  | cls (c : Fin 20)
deriving DecidableEq, Repr

inductive CheckResult where
  | none | checking | passed | aborted
  | tableIncomplete (item : IncompleteItem)
  | arithmeticFault
  | checkMismatch (ch : Motion)
  | brakesNotConfirmed
  | driveLinkDown
deriving DecidableEq, Repr

inductive ResetCause where
  | powerOn | line | restart
deriving DecidableEq, Repr

structure ModeCtl where
  mode : Mode
  check : CheckResult
  figures : PerMotion Nat
  settleTimer : Option Timer
  feedbackSeen : Bool
  testTimer : Option Timer
  resetCause : ResetCause
  time : BitVec 32
deriving DecidableEq, Repr

/-! ### The link ports (R171 to R177) -/

/-- A frame less its flags and check sequence (R170). -/
structure Frame where
  address : Byte
  kind : Byte
  body : List Byte
deriving DecidableEq, Repr

/-- The counters of the cab port or of the drive port (R171). -/
structure PortCounters where
  runt : Nat
  long : Nat
  aborted : Nat
  badFcs : Nat
  format : Nat
deriving DecidableEq, Repr

/-- The freshness timer and link-lost condition of the cab or drive port (R175), with the port's counters. -/
structure CyclicPort where
  fresh : Option Timer
  lost : Bool
  counters : PortCounters
deriving DecidableEq, Repr

/-- A request in the receive buffer (R172). -/
structure Request where
  dest : Dest
  kind : Byte
  body : List Byte
deriving DecidableEq, Repr

/-- The result codes (R177). -/
inductive ResultCode where
  | accepted | noChange | wrongMode | outOfRange | badFormat | notPermitted | busy | limit | unknownKind
deriving DecidableEq, Repr

/-- A monitor response being sent: the request's kind, the result code, and the data that follows it (R177, R182). -/
structure Response where
  kind : Byte
  code : ResultCode
  data : List Byte
deriving DecidableEq, Repr

/-- The monitor port (R171, R172, R177). `buffer` is oldest first. -/
structure MonitorPort where
  buffer : List Request
  response : Option Response
  counters : PortCounters
  overrun : Nat
deriving DecidableEq, Repr

structure Links where
  cab : CyclicPort
  drive : CyclicPort
  monitor : MonitorPort
  station : Fin 16
  refTimer : Timer
  driveSent : Option Frame
  cabSending : Option Frame
  cabWaiting : Option Frame
deriving DecidableEq, Repr

/-! ### The whole part -/

/-- The part, with the queue of the commands that wait and the counter of the free values read. -/
structure State where
  pending : List Instr
  freeIx : Nat
  held : Bool
  records : PerMotion Record
  zones : ZoneTables
  axisParams : PerAxis AxisParams
  tracker : Tracker
  channels : PerMotion Channel
  brakes : PerMotion Brake
  machine : MachineParams
  hd : HoistDrag
  swing : SwingSup
  walk : Walk
  alarms : AlarmProc
  ann : Annunciator
  ctl : ModeCtl
  links : Links
deriving DecidableEq, Repr

/-- The faults of a step. The spec names no event that stops the part, so there is none: no command answers a fault. -/
inductive Fault where
deriving DecidableEq, Repr

/-- The refusals of a step. -/
inductive Refusal where
  /-- Raised by an arm of `exec` whose command has no meaning yet. Safe. No arm raises it. -/
  | notModelled (mnemonic : String)
deriving DecidableEq, Repr

/-! ### Reset values -/

/-- A motion record that holds the given interlock entries after NOT_RUNNING and HOLD DRIVE (R10). -/
def Record.fresh (is : List Interlock) : Record :=
  { reasons := ⟨.notRunning, .trip⟩ :: ⟨.hold .drive, .stop⟩ :: is.map (fun i => ⟨.interlock i, .stop⟩),
    zonePos := 0, zoneNeg := 0 }

/-- R14, R26. -/
def AxisParams.fresh : AxisParams :=
  { polarity := .normal, maxDelta := 32767, u := 1, v := 1, n := 3600, markPos := 0, lookahead := 0, slope := 0 }

/-- R39. -/
def Track.fresh : Track :=
  { lastRaw := 0, lastRef := false, acc := 0, base := 0, pos := 0, referenced := false, jumps := 0, jumped := false,
    overRange := false }

/-- R44. -/
def ChannelParams.fresh : ChannelParams :=
  { db := 0, gain := [], taps := List.replicate 8 [], aUp := 10, aDown := 10, aStop := 50 }

/-- R41, R42. -/
def Channel.fresh : Channel :=
  { params := ChannelParams.fresh, latched := 0, armed := false, history := List.replicate 8 0, y := 0, c := 0, r := 0,
    demand := false, peak := 0, sats := 0, sampleTimer := ⟨0, 1⟩ }

/-- R67: SETTING, with the set timer started at the reset toward the reset value of T_SET. -/
def Brake.fresh : Brake :=
  { state := .setting, releaseTimer := none, setTimer := some ⟨0, 150⟩, holdTimer := none, lastReleased := false,
    lastSpeed := 0, releaseFail := false, setFail := false }

/-- R68, R80, R95, R109. -/
def MachineParams.fresh : MachineParams :=
  { brakes := .replicate { tRel := 150, tSet := 150, tHold := 200, vRest := 20 },
    tlTorque := 1000, hoistTopLimit := 0, dragInLimit := 0, groundPayout := 9999, slackTorque := 0,
    vPlug := 1000, plugCap := 1000, steerCap := 0,
    syncTol := 30, syncFault := 80, kTrim := 10, stallTime := 300, warnTime := 500, warnValid := 6000, creepCap := 0 }

/-- R79. -/
def HoistDrag.fresh : HoistDrag :=
  { hoistTorque := 0, dragTorque := 0, tightLine := false, hoistOvertravel := false, dragOvertravel := false,
    grounded := false, evaluated := false }

/-- R94. -/
def SwingSup.fresh : SwingSup :=
  { speed := 0, target := 0, plugging := false, window := false, tubLifted := true, steering := false,
    beaconRequest := true }

def Cam.fresh : Cam := { phase := none, progress := none, pending := .none }

/-- R108. -/
def Walk.fresh : Walk :=
  { table := none, left := Cam.fresh, right := Cam.fresh, diff := none, walkL := 0, walkR := 0, sync := false,
    stall := false, steps := 0, stallTimer := none, stallBase := 0, selection := .deselected, lastSelect := none,
    warning := .cleared, warnTimer := none, validTimer := none, hornRequest := false, grantHeld := false,
    gate := .opened }

/-- R130, at POWER_ON. -/
def AlarmRun.fresh : AlarmRun :=
  { state := .normal, raw := false, filtered := false, delay := none, count := 0, lastRaise := none,
    shelvedUntil := none }

/-- R129, at POWER_ON. -/
def AlarmProc.fresh : AlarmProc :=
  { defs := Vector.replicate 64 none, runs := Vector.replicate 64 AlarmRun.fresh, internals := 0#20,
    driveInputs := none, cabInputs := none, active := [], firstOut := none, trip := none, silence := false,
    hornRequest := false, lastButtons := none }

/-- R152. The counts and exponent of the steady PAT_OPERATOR are DESIGN CHOICE, unsafe (log entry 5). -/
def Patterns.fresh : Patterns :=
  { alarm := ⟨49, 49, 0, false⟩, walk := ⟨99, 49, 0, false⟩, operator := ⟨0, 0, 0, true⟩,
    beacon := ⟨24, 74, 0, false⟩, fast := ⟨24, 24, 0, false⟩, slow := ⟨49, 149, 0, false⟩ }

/-- R148, R153: the lamp and beacon generators run from the start of on; the horn generator is stopped. -/
def Annunciator.fresh : Annunciator :=
  { lampMap := Vector.replicate 48 [], lampTest := false, lampDark := false, patterns := Patterns.fresh,
    gens := { fastLamp := ⟨true, true, some ⟨0, 25⟩⟩, slowLamp := ⟨true, true, some ⟨0, 50⟩⟩,
              horn := ⟨false, true, none⟩, beacon := ⟨true, true, some ⟨0, 25⟩⟩ },
    operatorRequest := false, grant := none }

/-- R160. -/
def ModeCtl.fresh (cause : ResetCause) : ModeCtl :=
  { mode := .config, check := .none, figures := .replicate 0, settleTimer := none, feedbackSeen := false,
    testTimer := none, resetCause := cause, time := 0#32 }

def PortCounters.fresh : PortCounters := { runt := 0, long := 0, aborted := 0, badFcs := 0, format := 0 }

/-- R171, R172, R174, R175, R176. -/
def Links.fresh (straps : Fin 16) : Links :=
  { cab := ⟨some ⟨0, 10⟩, false, PortCounters.fresh⟩, drive := ⟨some ⟨0, 5⟩, false, PortCounters.fresh⟩,
    monitor := ⟨[], none, PortCounters.fresh, 0⟩, station := straps, refTimer := ⟨0, 1⟩, driveSent := none,
    cabSending := none, cabWaiting := none }

/-- The part right after a reset of the given kind with the given number on the straps (R168), with the alarm counts and
trip record of a POWER_ON, running, and with an empty queue. -/
def State.fresh (cause : ResetCause) (straps : Fin 16) : State :=
  { pending := [], freeIx := 0, held := false,
    records := { hoist := Record.fresh [.walkEngaged], drag := Record.fresh [.walkEngaged],
                 swing := Record.fresh [.tubLifted],
                 walk := Record.fresh [.notSelected, .brakesNotSet, .warningIncomplete] },
    zones := ⟨[], [], []⟩,
    axisParams := .replicate AxisParams.fresh,
    tracker := { axes := .replicate Track.fresh, countsBased := false },
    channels := .replicate Channel.fresh,
    brakes := .replicate Brake.fresh,
    machine := MachineParams.fresh,
    hd := HoistDrag.fresh, swing := SwingSup.fresh, walk := Walk.fresh, alarms := AlarmProc.fresh,
    ann := Annunciator.fresh, ctl := ModeCtl.fresh cause, links := Links.fresh straps }

/-- The machine right after a POWER_ON reset. The strap number 0 is DESIGN CHOICE, unsafe (log entry 5). -/
def State.reset : State := State.fresh .powerOn 0

/-! ### Updates of one member -/

def State.setRecord (s : State) (m : Motion) (a : Record) : State := { s with records := s.records.set m a }
def State.setChannel (s : State) (m : Motion) (a : Channel) : State := { s with channels := s.channels.set m a }
def State.setBrake (s : State) (m : Motion) (a : Brake) : State := { s with brakes := s.brakes.set m a }
def State.setWalk (s : State) (a : Walk) : State := { s with walk := a }
def State.setSwing (s : State) (a : SwingSup) : State := { s with swing := a }
def State.setHd (s : State) (a : HoistDrag) : State := { s with hd := a }
def State.setAlarms (s : State) (a : AlarmProc) : State := { s with alarms := a }
def State.setAnn (s : State) (a : Annunciator) : State := { s with ann := a }
def State.setCtl (s : State) (a : ModeCtl) : State := { s with ctl := a }
def State.setLinks (s : State) (a : Links) : State := { s with links := a }
def State.setTracker (s : State) (a : Tracker) : State := { s with tracker := a }

end Sys2Proof.Machine
end

