-- ==== Sys2Proof/Machine/Operands.lean ====
section
/-! DEFINITION. The operand forms: the byte order of a body, the fields of the two cyclic frames received (R180, R181),
and the length and structure that each monitor request asks of its body (R178, R180, R182). -/

namespace Sys2Proof.Machine
open Sys2Proof

/-! ### Numbers and bytes (R180) -/

/-- The low byte of a number. -/
def byteOf (n : Nat) : Byte := BitVec.ofNat 8 n

/-- A number of two bytes, low byte first. -/
def le16 (n : Nat) : List Byte := [byteOf n, byteOf (n / 256)]

/-- A number of four bytes, low byte first. -/
def le32 (n : Nat) : List Byte := [byteOf n, byteOf (n / 256), byteOf (n / 65536), byteOf (n / 16777216)]

/-- A signed number of two bytes, two's complement. -/
def si16 (x : Int) : List Byte := le16 (x % 65536).toNat

/-- A signed number of four bytes, two's complement. -/
def si32 (x : Int) : List Byte := le32 (x % 4294967296).toNat

/-- A true-or-false item of one byte. -/
def bit8 (b : Bool) : Byte := if b then 1#8 else 0#8

/-- Byte `i` of a body. -/
def byteAt (body : List Byte) (i : Nat) : Nat := (body.getD i 0#8).toNat

/-- The two-byte number at offset `i`. -/
def wordAt (body : List Byte) (i : Nat) : Nat := byteAt body i + 256 * byteAt body (i + 1)

/-- The signed two-byte number at offset `i`. -/
def signedAt (body : List Byte) (i : Nat) : Int :=
  if wordAt body i < 32768 then wordAt body i else (wordAt body i : Int) - 65536

/-- The four-byte number at offset `i`. -/
def longAt (body : List Byte) (i : Nat) : Nat := wordAt body i + 65536 * wordAt body (i + 2)

/-- Bit `n` of byte `i`. -/
def bitAt (body : List Byte) (i n : Nat) : Bool := (body.getD i 0#8).getLsbD n

/-- A motion set read from byte `i`: bits 0..3 for HOIST, DRAG, SWING, WALK. -/
def motionSetAt (body : List Byte) (i : Nat) : PerMotion Bool :=
  ⟨bitAt body i 0, bitAt body i 1, bitAt body i 2, bitAt body i 3⟩

/-- A motion set as a byte. -/
def motionSetByte (p : PerMotion Bool) : Byte :=
  byteOf (p.hoist.toNat + 2 * p.drag.toNat + 4 * p.swing.toNat + 8 * p.walk.toNat)

/-- The motion or channel a code names. -/
def motionOfCode : Nat → Option Motion
  | 0 => some .hoist
  | 1 => some .drag
  | 2 => some .swing
  | 3 => some .walk
  | _ => none

/-- The axis a code names. -/
def axisOfCode : Nat → Option Axis
  | 0 => some .hoist
  | 1 => some .drag
  | 2 => some .swing
  | 3 => some .camL
  | 4 => some .camR
  | _ => none

/-- A true-or-false byte: 0 or 1, anything else is no value. -/
def boolOfCode : Nat → Option Bool
  | 0 => some false
  | 1 => some true
  | _ => none

/-! ### The cyclic frames received (R181) -/

/-- The fields of a CAB_COMMAND (R174, R181). -/
structure CabFrame where
  levers : PerMotion Int
  walkSelect : Bool
  horn : Bool
  silence : Bool
  ack : Bool
  reset : Bool
  lampTest : Bool
  holds : PerMotion Bool
  inputs : BitVec 16
deriving DecidableEq, Repr

def cabFrameOf (b : List Byte) : CabFrame :=
  { levers := ⟨signedAt b 0, signedAt b 2, signedAt b 4, signedAt b 6⟩,
    walkSelect := bitAt b 8 0, horn := bitAt b 8 1, silence := bitAt b 8 2, ack := bitAt b 8 3, reset := bitAt b 8 4,
    lampTest := bitAt b 8 5, holds := motionSetAt b 9, inputs := BitVec.ofNat 16 (wordAt b 10) }

/-- The length of a CAB_COMMAND body. -/
def cabCommandLength : Nat := 12

/-- The fields of a DRIVE_FEEDBACK (R176, R181). -/
structure DriveFrame where
  ready : PerMotion Bool
  released : PerMotion Bool
  torques : PerMotion Int
  speeds : PerMotion Int
  raws : PerAxis Nat
  refs : PerAxis Bool
  faults : BitVec 32
deriving DecidableEq, Repr

def driveFrameOf (b : List Byte) : DriveFrame :=
  { ready := motionSetAt b 0, released := motionSetAt b 1,
    torques := ⟨signedAt b 2, signedAt b 4, signedAt b 6, signedAt b 8⟩,
    speeds := ⟨signedAt b 10, signedAt b 12, signedAt b 14, signedAt b 16⟩,
    raws := ⟨wordAt b 18, wordAt b 20, wordAt b 22, wordAt b 24, wordAt b 26⟩,
    refs := ⟨bitAt b 28 0, bitAt b 28 1, bitAt b 28 2, bitAt b 28 3, bitAt b 28 4⟩,
    faults := BitVec.ofNat 32 (longAt b 29) }

/-- The length of a DRIVE_FEEDBACK body. -/
def driveFeedbackLength : Nat := 33

/-! ### Monitor requests (R178, R182) -/

/-- The largest body of a frame (R170). -/
def maxBody : Nat := 120

/-- The kinds of the monitor requests: 0x20..0x32. -/
def knownKind (k : Byte) : Bool := decide (0x20 ≤ k.toNat) && decide (k.toNat ≤ 0x32)

/-- The structure of one term byte: bits 5..4 are zero, and an absent place is 0x00 (R182). -/
def termByteFits (b : Byte) : Bool :=
  if b.getLsbD 7 then !b.getLsbD 5 && !b.getLsbD 4 else decide (b = 0#8)

/-- A motion set carries nothing in bits 7..4 (R180). -/
def motionSetFits (b : Byte) : Bool := decide (b.toNat < 16)

/-- A counted encoding: the count byte, then that many items of `size` bytes. -/
def countedFits (size : Nat) : List Byte → Bool
  | [] => false
  | n :: rest => decide (rest.length = n.toNat * size)

/-- The structure of an alarm definition: the bytes after an empty slot's first are disregarded (R182). -/
def alarmDefFits (enc : List Byte) : Bool :=
  decide (byteAt enc 0 = 0) || motionSetFits (enc.getD 5 0#8)

/-- The length of a ZONES encoding: its count byte fixes it, with zones of 6 bytes for HOIST and DRAG and of 7 for SWING
(R182). An axis that has no zone table gives no zone length, so that its encoding may have either (log entry 12). -/
def zonesFit (argument : Nat) (enc : List Byte) : Bool :=
  if argument < 2 then countedFits 6 enc
  else if argument = 2 then countedFits 7 enc
  else countedFits 6 enc || countedFits 7 enc

/-- The length and structure a table encoding must have, by identifier and argument. An unknown identifier passes (R182).
-/
def tableFits (identifier argument : Nat) (enc : List Byte) : Bool :=
  match identifier with
  | 1 => decide (enc.length = 35) && ((enc.drop 2).take 27).all termByteFits
  | 2 => zonesFit argument enc
  | 3 => decide (enc.length = 36)
  | 4 => decide (enc.length = 11) && alarmDefFits enc
  | 5 => countedFits 1 enc
  | 6 => decide (enc.length = 4)
  | 7 => decide (enc.length = 14)
  | 8 => decide (enc.length = 62)
  | _ => true

/-- The format of a TABLE_WRITE body. -/
def writeFits : List Byte → Bool
  | identifier :: argument :: enc => tableFits identifier.toNat argument.toNat enc
  | _ => false

/-- The format a request body must have, by kind (R182). -/
def requestFits (kind : Byte) (body : List Byte) : Bool :=
  match kind.toNat with
  | 0x20 => writeFits body
  | 0x21 => decide (body.length = 2)
  | 0x22 => decide (body.length = 2)
  | 0x23 => decide (body.length = 1)
  | 0x24 => decide (body.length = 0)
  | 0x25 => decide (body.length = 1)
  | 0x26 => decide (body.length = 0)
  | 0x27 => decide (body.length = 8)
  | 0x28 => decide (body.length = 0)
  | 0x29 => decide (body.length = 0)
  | 0x2A => decide (body.length = 1)
  | 0x2B => decide (body.length = 1)
  | 0x2C => decide (body.length = 3)
  | 0x2D => decide (body.length = 1)
  | 0x2E => decide (body.length = 1) && motionSetFits (body.getD 0 0#8)
  | 0x2F => decide (body.length = 1) && motionSetFits (body.getD 0 0#8)
  | 0x30 => decide (body.length = 1)
  | 0x31 => decide (body.length = 3)
  | 0x32 => decide (body.length = 0)
  | _ => false

/-- The table identifier a TABLE_WRITE body carries; 0 where the body is too short. -/
def writeIdentifier (body : List Byte) : Nat := byteAt body 0

/-- One of the eight table identifiers (R179). -/
def knownTable (identifier : Nat) : Bool := decide (1 ≤ identifier) && decide (identifier ≤ 8)

end Sys2Proof.Machine
end

