-- ==== Sys2Proof/Config.lean ====
section
/-! DEFINITION. What the manual leaves open, as free values: constants with no body, so that nothing can be proved of
the value they take. Each is applied to the counter `State.freeIx`, which every reading advances. -/

namespace Sys2Proof.Config

/-- DESIGN CHOICE, safe (log entry 2). The order in which events taken "in either order" are taken, at the n-th such
point: at each place of the order, the number (modulo the count left) of the event taken next. Missing numbers count as
zero, so every order of any list is some value of this constant. -/
opaque order : Nat → List Nat

/-- DESIGN CHOICE, safe (log entry 3). The sum that the part's own arithmetic delivers at the n-th running of the fixed
arithmetic test (R65: "A fault of that arithmetic may make it differ from 974"). -/
opaque testSum : Nat → Nat

end Sys2Proof.Config
end

