-- ==== Sys2Proof/Machine/Flags.lean ====
section
/-! DEFINITION. Everything the manual derives from the held state at every moment: permit states, primary causes,
effective caps, demand tests, conditions, walk derivations, lamp states and the outputs. -/

namespace Sys2Proof.Machine
open Sys2Proof

/-- `x` limited to the range from `lo` to `hi`. -/
def limitInt (lo hi x : Int) : Int := if x < lo then lo else if hi < x then hi else x

/-- The sign of a number as -1, 0 or 1. -/
def signInt (x : Int) : Int := if x < 0 then -1 else if x = 0 then 0 else 1

/-! ### The authority table -/

def Effect.isTrip : Effect → Bool
  | .trip => true
  | _ => false

def Effect.isStop : Effect → Bool
  | .stop => true
  | _ => false

def Effect.isCap : Effect → Bool
  | .cap _ _ => true
  | _ => false

/-- The permit state of a reason set (R7). -/
def permitOf (rs : List Reason) : Permit :=
  if rs.any (fun e => e.effect.isTrip) then .tripped
  else if rs.any (fun e => e.effect.isStop) then .stopped
  else if rs.isEmpty then .free
  else .capped

/-- STOPPED and TRIPPED are the permit states in which a motion may not move. -/
def Permit.halts : Permit → Bool
  | .stopped => true
  | .tripped => true
  | _ => false

/-- The primary cause: the oldest STOP or TRIP entry's source (R8). -/
def primaryCause (rs : List Reason) : Option Source :=
  (rs.find? (fun e => !e.effect.isCap)).map Reason.source

/-- Whether a cap direction covers a direction of motion (R2). -/
def CapDir.covers : CapDir → Dir → Bool
  | .pos, .pos => true
  | .neg, .neg => true
  | .both, _ => true
  | _, _ => false

/-- The cap an entry puts on a direction, if any (R9). -/
def capOn (d : Dir) (e : Reason) : Option Nat :=
  match e.effect with
  | .cap v dir => if dir.covers d then some v else none
  | _ => none

/-- The zone cap of a record in one direction (R1). -/
def Record.zoneCap (r : Record) : Dir → Nat
  | .pos => r.zonePos
  | .neg => r.zoneNeg

/-- The effective cap: the least of the zone cap, 1000 and the covering CAP entries (R9). -/
def effectiveCap (r : Record) (d : Dir) : Nat :=
  (r.reasons.filterMap (capOn d)).foldl min (min (r.zoneCap d) 1000)

/-- The permit state of a motion as its record stands. -/
def State.permit (s : State) (m : Motion) : Permit := permitOf (s.records.get m).reasons

/-- Whether a record holds an entry of a source. -/
def hasSource (rs : List Reason) (src : Source) : Bool := rs.any (fun e => decide (e.source = src))

/-! ### Brakes -/

def State.brakeSet (s : State) (m : Motion) : Bool := decide ((s.brakes.get m).state = .set)

/-- The release request bit of a motion (R77). -/
def releaseRequest (s : State) (m : Motion) : Bool :=
  match (s.brakes.get m).state with
  | .releasing => true
  | .released => true
  | _ => false

/-- All four sequencers are in SET (R163, R166). -/
def allBrakesSet (s : State) : Bool :=
  s.brakeSet .hoist && s.brakeSet .drag && s.brakeSet .swing && s.brakeSet .walk

/-- Any of the three digging sequencers is in a state other than SET (R122). -/
def diggingBrakesNotSet (s : State) : Bool :=
  !(s.brakeSet .hoist && s.brakeSet .drag && s.brakeSet .swing)

/-- The walk interlock (R70). -/
def interlockAllows (s : State) : Motion → Bool
  | .walk => s.brakeSet .hoist && s.brakeSet .drag && s.brakeSet .swing
  | _ => s.brakeSet .walk

/-- The release condition (R69). -/
def releaseCondition (s : State) (m : Motion) : Bool :=
  (s.channels.get m).demand && !(s.permit m).halts && interlockAllows s m

/-- The hold-to-set condition (R72). -/
def holdToSet (s : State) (m : Motion) : Bool :=
  decide ((s.channels.get m).r = 0) && !(s.channels.get m).demand &&
    decide ((s.brakes.get m).lastSpeed.natAbs ≤ (s.machine.brakes.get m).vRest)

/-! ### Walking -/

/-- The machine phase: the phase of the lagging cam, or none for UNKNOWN (R112). -/
def machinePhase (w : Walk) : Option Phase :=
  match w.diff with
  | none => none
  | some d => if 0 ≤ d then w.right.phase else w.left.phase

/-- Both cam phases are RAISED (R111). -/
def bothRaised (w : Walk) : Bool := decide (w.left.phase = some .raised) && decide (w.right.phase = some .raised)

/-- Walk is selected in SELECTED and DESELECT_PENDING (R108). -/
def walkSelected (w : Walk) : Bool := decide (w.selection ≠ .deselected)

/-- The gate as the cam phases give it (R123). -/
def gateOf (w : Walk) : Gate := if bothRaised w || (machinePhase w).isNone then .opened else .closed

/-- A cam's progress: its angle less b0, modulo 3600 (R111). -/
def progressOf (t : PhaseTable) (angle : Nat) : Nat := (angle + 3600 - t.raised.bound % 3600) % 3600

/-- The stall watch's parts (R118). -/
def stallWatchActive (s : State) : Bool :=
  decide (s.channels.walk.r ≠ 0) && decide (s.brakes.walk.state = .released) && (machinePhase s.walk).isSome &&
    !s.links.drive.lost && !s.walk.stall

/-- The parts of the validity timer's running (R125). -/
def validityRuns (s : State) : Bool :=
  decide (s.walk.warning = .complete) && walkSelected s.walk && bothRaised s.walk && decide (s.channels.walk.r = 0)

/-- The cause of WALK_ENGAGED (R89). -/
def walkEngagedCause (s : State) : Bool := walkSelected s.walk || !s.brakeSet .walk

/-- The tub-lifted state as its inputs give it (R101). -/
def tubLiftedCause (s : State) : Bool := !s.brakeSet .walk || (walkSelected s.walk && !bothRaised s.walk)

/-- The steering state as its inputs give it (R102). -/
def steeringCause (s : State) : Bool := walkSelected s.walk && !tubLiftedCause s

/-- The beacon request as the brakes give it (R104). -/
def beaconCause (s : State) : Bool := !s.brakeSet .swing || !s.brakeSet .walk

/-- PLUGGING as the last target and speed give it (R98). -/
def pluggingTest (s : State) : Bool :=
  decide (s.swing.target ≠ 0) && decide (s.swing.speed ≠ 0) &&
    decide (signInt s.swing.target ≠ signInt s.swing.speed) && decide (s.machine.vPlug < s.swing.speed.natAbs)

/-! ### Alarms -/

/-- The value of an internal condition at its owner (R133). -/
def conditionValue (s : State) (c : Fin 20) : Bool :=
  match c.val with
  | 0 => s.links.cab.lost
  | 1 => s.links.drive.lost
  | 2 => s.brakes.hoist.releaseFail
  | 3 => s.brakes.drag.releaseFail
  | 4 => s.brakes.swing.releaseFail
  | 5 => s.brakes.walk.releaseFail
  | 6 => s.brakes.hoist.setFail
  | 7 => s.brakes.drag.setFail
  | 8 => s.brakes.swing.setFail
  | 9 => s.brakes.walk.setFail
  | 10 => s.hd.tightLine
  | 11 => s.walk.sync
  | 12 => s.walk.stall
  | 13 => s.tracker.axes.hoist.jumped
  | 14 => s.tracker.axes.drag.jumped
  | 15 => s.tracker.axes.swing.jumped
  | 16 => s.tracker.axes.camL.jumped
  | 17 => s.tracker.axes.camR.jumped
  | 18 => s.hd.hoistOvertravel
  | _ => s.hd.dragOvertravel

/-- The value of a source as last handed to the alarm processor, or none while it has not been received (R133). -/
def sourceValue (a : AlarmProc) : AlarmSource → Option Bool
  | .internal c => some (a.internals.getLsbD c.val)
  | .driveInput i => a.driveInputs.map (fun v => v.getLsbD i.val)
  | .cabInput i => a.cabInputs.map (fun v => v.getLsbD i.val)

/-- The raw condition of a definition: the source value with the polarity applied, false while not received (R133). -/
def rawCondition (a : AlarmProc) (d : AlarmDef) : Bool :=
  match sourceValue a d.source with
  | none => false
  | some v => match d.polarity with
    | .activeTrue => v
    | .activeFalse => !v

def AlarmClass.isAdvisory : AlarmClass → Bool
  | .advisory => true
  | _ => false

/-- STOP and TRIP classes, which take and keep the first-out mark (R141) and cannot be shelved (R143). -/
def AlarmClass.isStopOrTrip : AlarmClass → Bool
  | .stop => true
  | .trip => true
  | _ => false

def AlarmClass.isTrip : AlarmClass → Bool
  | .trip => true
  | _ => false

/-- Whether an alarm in a state is in effect (R139). -/
def inEffect (d : AlarmDef) (st : AlarmState) : Bool :=
  match st with
  | .normal => false
  | .raised => true
  | .held => true
  | .returned => d.latching
  | .latched => d.latching

/-- The effect of an alarm's consequence; none for ADVISORY (R139). -/
def consequenceEffect : AlarmClass → Option Effect
  | .advisory => none
  | .slow cap => some (.cap cap .both)
  | .stop => some .stop
  | .trip => some .trip

/-- The slots whose definition takes a source. -/
def slotsOf (a : AlarmProc) (src : AlarmSource) : List (Fin 64) :=
  (List.finRange 64).filter (fun n => decide ((a.defs[n]).map AlarmDef.source = some src))

/-- A STOP-class or TRIP-class alarm outside NORMAL, by the definitions as they stand (R141). -/
def stopTripActive (a : AlarmProc) (n : Fin 64) : Bool :=
  match a.defs[n] with
  | some d => d.cls.isStopOrTrip && decide ((a.runs[n]).state ≠ .normal)
  | none => false

/-- The alarm horn request as the alarms give it (R145). -/
def hornCause (a : AlarmProc) : Bool :=
  !a.silence && (List.finRange 64).any (fun n =>
    match a.defs[n] with
    | some d => d.horn && decide ((a.runs[n]).state = .raised) && (a.runs[n]).shelvedUntil.isNone
    | none => false)

/-- RAISED and RETURNED alarms are unacknowledged (R140). -/
def unacknowledged (a : AlarmProc) (n : Fin 64) : Bool :=
  decide ((a.runs[n]).state = .raised) || decide ((a.runs[n]).state = .returned)

/-- The number of RAISED and RETURNED alarms in the active list (R140). -/
def unacknowledgedCount (a : AlarmProc) : Nat := (a.active.filter (unacknowledged a)).length

/-- The unshelved RAISED or RETURNED alarm nearest the tail of the active list (R140). -/
def newestUnacknowledged (a : AlarmProc) : Option (Fin 64) :=
  (a.active.filter (fun n => unacknowledged a n && (a.runs[n]).shelvedUntil.isNone)).getLast?

/-! ### Lamps, horn and beacon -/

/-- A lamp's state, derived from the mapped alarms that are not shelved (R150). -/
def lampState (s : State) (lamp : Fin 48) : LampState :=
  let shown := ((s.ann.lampMap)[lamp]).filter (fun n => (s.alarms.runs[n]).shelvedUntil.isNone)
  let state (n : Fin 64) : AlarmState := (s.alarms.runs[n]).state
  if shown.any (fun n => decide (state n = .raised)) then .fast
  else if shown.any (fun n => decide (state n = .returned) ||
      (decide (s.alarms.firstOut = some n) && decide (state n ≠ .normal))) then .slow
  else if shown.any (fun n => decide (state n = .held) || decide (state n = .latched)) then .steady
  else .off

/-- What a generator produces (R153). -/
def Gen.produces (g : Gen) : Bool := g.running && g.onHalf

/-- A lamp output (R151, R153); off while the part is held (R167). -/
def lampOutput (s : State) (lamp : Fin 48) : Bool :=
  if s.held then false
  else if s.ann.lampTest then true
  else if s.ann.lampDark then false
  else match lampState s lamp with
    | .fast => s.ann.gens.fastLamp.produces
    | .slow => s.ann.gens.slowLamp.produces
    | .steady => true
    | .off => false

/-- The horn output (R157); off while the part is held (R167). -/
def hornOutput (s : State) : Bool := !s.held && s.ann.gens.horn.produces

/-- The beacon output (R158); off while the part is held (R167). -/
def beaconOutput (s : State) : Bool := !s.held && s.swing.beaconRequest && s.ann.gens.beacon.produces

/-- The highest active requester of the horn, in the order ALARM, WALK, OPERATOR (R156). -/
def highestRequester (s : State) : Option Requester :=
  if s.alarms.hornRequest then some .alarm
  else if s.walk.hornRequest then some .walk
  else if s.ann.operatorRequest then some .operator
  else none

/-- The pattern with an identifier (R152). -/
def Patterns.get (p : Patterns) : PatternId → Pattern
  | .alarm => p.alarm
  | .walk => p.walk
  | .operator => p.operator
  | .beacon => p.beacon
  | .fast => p.fast
  | .slow => p.slow

/-- The pattern the horn uses for a requester (R156). -/
def Requester.pattern : Requester → PatternId
  | .alarm => .alarm
  | .walk => .walk
  | .operator => .operator

/-- The on time and off time of a pattern, in units of 10 ms (R152). -/
def Pattern.onTime (p : Pattern) : Nat := (p.onCount + 1) * 2 ^ p.scale
def Pattern.offTime (p : Pattern) : Nat := (p.offCount + 1) * 2 ^ p.scale

/-- Whether shelving that ends at `t` has reached its end at machine time `now`: the time since `t` is less than half
the range of machine time (R143; log entry 8). -/
def shelvingReached (now t : BitVec 32) : Bool := decide ((now - t).toNat < 2 ^ 31)

end Sys2Proof.Machine
end

