-- ==== Sys2Proof/Machine/Ops.lean ====
section
/-! DEFINITION. The operations that several commands share: free orders, timers, the insertion and removal of reasons
with what a change of permit state does to the shaper and the brake sequencer, the departure of a brake from SET, the
horn arbiter, and the tests of the walk timers. They stand in layers, so that no hand-on needs recursion: an entry into
STOPPED asks for no reason; a release asks for STOP reasons only; the general request may begin a release. -/

namespace Sys2Proof.Machine
open Sys2Proof

/-! ### Free orders -/

/-- `xs` in an order that respects `before`: at each place one of the elements that no remaining element must precede,
chosen by the next number of `ks`. -/
def orderBy {α : Type} [DecidableEq α] (before : α → α → Bool) : Nat → List Nat → List α → List α
  | 0, _, xs => xs
  | _ + 1, _, [] => []
  | _ + 1, _, [x] => [x]
  | fuel + 1, ks, x :: y :: rest =>
    let xs := x :: y :: rest
    let ready := xs.filter (fun a => xs.all (fun b => !before b a))
    let next := ready.getD (ks.headD 0 % ready.length) x
    next :: orderBy before fuel ks.tail (xs.erase next)

/-- Every element of `xs` taken by `f`, one after another, in an order that respects `before` and is otherwise free: the
order is the next free value (log entry 2). -/
def takeInOrder {α : Type} [DecidableEq α] (before : α → α → Bool) (f : α → State → State) (xs : List α) (s : State) :
    State :=
  (orderBy before xs.length (Config.order s.freeIx) xs).foldl (fun t x => f x t) { s with freeIx := s.freeIx + 1 }

/-- Every element of `xs` taken by `f`, one after another, in either order. -/
def takeEither {α : Type} [DecidableEq α] (f : α → State → State) (xs : List α) (s : State) : State :=
  takeInOrder (fun _ _ => false) f xs s

/-- The motions in the order HOIST, DRAG, SWING, WALK. -/
def allMotions : List Motion := [.hoist, .drag, .swing, .walk]

/-- Every motion taken by `f` in the order HOIST, DRAG, SWING, WALK. -/
def eachMotion (f : Motion → State → State) (s : State) : State := allMotions.foldl (fun t m => f m t) s

/-! ### Timers -/

/-- A timer started from 0 toward a limit. -/
def startTimer (limit : Nat) : Option Timer := some ⟨0, limit⟩

/-- One unit of 10 ms: the elapsed time grows up to the limit (R67). -/
def Timer.tick (t : Timer) : Timer := { t with elapsed := min (t.elapsed + 1) t.limit }

/-- The elapsed time has reached the value the timer was started under (R67, R68). -/
def Timer.due (t : Timer) : Bool := decide (t.limit ≤ t.elapsed)

/-- A timer is running and due. -/
def timerDue : Option Timer → Bool
  | none => false
  | some t => t.due

/-! ### Reason sets -/

/-- An entry that takes the cap value and direction of a request from the same source (R3). -/
def Effect.updated (old new : Effect) : Effect :=
  match old, new with
  | .cap _ _, .cap v d => .cap v d
  | e, _ => e

/-- Insertion: the entry of the same source is updated in place, or the new entry is appended at the tail (R3). -/
def insertEntry (rs : List Reason) (e : Reason) : List Reason :=
  if hasSource rs e.source then
    rs.map (fun x => if x.source = e.source then { x with effect := x.effect.updated e.effect } else x)
  else rs ++ [e]

/-- Removal: the entry with the source is taken out; the others keep their order (R4). -/
def removeEntry (rs : List Reason) (src : Source) : List Reason := rs.filter (fun x => !decide (x.source = src))

/-- A record with another reason set. -/
def State.setReasons (s : State) (m : Motion) (rs : List Reason) : State :=
  s.setRecord m { s.records.get m with reasons := rs }

/-! ### Layer 1: zeroing references, and the entry into STOPPED or TRIPPED -/

/-- At a zeroing of the walk channel's r both walk references become 0 (R114) and WALK_STALL becomes false (R118). -/
def zeroWalkRefs (s : State) : State := s.setWalk { s.walk with walkL := 0, walkR := 0, stall := false }

/-- The published reference of a motion becomes 0 at once (R62). -/
def zeroReference (m : Motion) (s : State) : State :=
  let s := s.setChannel m { s.channels.get m with r := 0 }
  match m with
  | .walk => zeroWalkRefs s
  | _ => s

/-- The sequencer enters SETTING: its release and hold timers stop and its set timer starts from 0 (R71, R72, R73). -/
def enterSetting (m : Motion) (s : State) : State :=
  s.setBrake m { s.brakes.get m with
    state := .setting, releaseTimer := none, holdTimer := none, setTimer := startTimer (s.machine.brakes.get m).tSet }

/-- The sequencer leaves RELEASED for SETTING, which zeroes the published reference (R62, R72, R73). -/
def leaveReleased (m : Motion) (s : State) : State := zeroReference m (enterSetting m s)

/-- The evaluation of the hold-to-set condition in RELEASED (R72). With T_HOLD = 0 the sequencer leaves at once. -/
def evalHoldToSet (m : Motion) (s : State) : State :=
  let b := s.brakes.get m
  if b.state = .released then
    if holdToSet s m then
      match b.holdTimer with
      | some _ => s
      | none =>
        if (s.machine.brakes.get m).tHold = 0 then leaveReleased m s
        else s.setBrake m { b with holdTimer := startTimer (s.machine.brakes.get m).tHold }
    else s.setBrake m { b with holdTimer := none }
  else s

/-- The shaper's part of an entry into STOPPED or TRIPPED: the armed flag and demand become false (R48, R56), and at an
entry into TRIPPED r and the history become 0 (R62). -/
def haltChannel (m : Motion) (tripped : Bool) (s : State) : State :=
  let c := s.channels.get m
  let s := s.setChannel m { c with armed := false, demand := false,
                                   history := if tripped then List.replicate 8 0 else c.history }
  if tripped then zeroReference m s else s

/-- The brake sequencer's part of an entry into STOPPED or TRIPPED (R71, R72, R73). -/
def haltBrake (m : Motion) (tripped : Bool) (s : State) : State :=
  match (s.brakes.get m).state with
  | .releasing => enterSetting m s
  | .released => if tripped then leaveReleased m s else evalHoldToSet m s
  | _ => s

/-- An entry of the motion into STOPPED or TRIPPED (R7). -/
def enterHalt (m : Motion) (tripped : Bool) (s : State) : State := haltBrake m tripped (haltChannel m tripped s)

/-- The insertion of an interlock's STOP entry. If it changes the permit state, the motion enters STOPPED (R7). -/
def insertStop (m : Motion) (i : Interlock) (s : State) : State :=
  let s' := s.setReasons m (insertEntry (s.records.get m).reasons ⟨.interlock i, .stop⟩)
  if s'.permit m = s.permit m then s' else enterHalt m false s'

/-! ### Layer 2: the annunciator's beacon, and the beginning of a release -/

/-- A generator started at the start of on with a pattern (R153). -/
def genStart (p : Pattern) : Gen := ⟨true, true, if p.steady then none else startTimer p.onTime⟩

/-- A generator stopped (R153). -/
def genStop (g : Gen) : Gen := { g with running := false, half := none }

/-- The beacon request is evaluated; a change starts or stops the beacon generator (R104, R158). -/
def evalBeacon (s : State) : State :=
  if beaconCause s = s.swing.beaconRequest then s
  else
    let gen := if beaconCause s then genStart s.ann.patterns.beacon else genStop s.ann.gens.beacon
    (s.setSwing { s.swing with beaconRequest := beaconCause s }).setAnn
      { s.ann with gens := { s.ann.gens with beacon := gen } }

/-- The tub-lifted state becomes true: TUB_LIFTED is inserted first, then STEER_LIMIT is removed (R102). With the STOP
just inserted the removal of the CAP cannot change the permit state. -/
def liftTub (s : State) : State :=
  if s.swing.tubLifted then s
  else
    let steering := s.swing.steering
    let s := insertStop .swing .tubLifted (s.setSwing { s.swing with tubLifted := true, steering := false })
    if steering then s.setReasons .swing (removeEntry s.records.swing.reasons (.interlock .steerLimit)) else s

/-- What the departure of a sequencer from SET brings to its neighbours (R77): WALK_ENGAGED, TUB_LIFTED and the beacon
request for the walk brake; BRAKES_NOT_SET for a digging brake, with the beacon request for the swing brake. -/
def departSet (m : Motion) (s : State) : State :=
  match m with
  | .walk => evalBeacon (liftTub (insertStop .drag .walkEngaged (insertStop .hoist .walkEngaged s)))
  | .swing => evalBeacon (insertStop .walk .brakesNotSet s)
  | _ => insertStop .walk .brakesNotSet s

/-- The sequencer leaves SET for RELEASING and starts its release timer (R69). -/
def beginRelease (m : Motion) (s : State) : State :=
  departSet m (s.setBrake m { s.brakes.get m with
    state := .releasing, releaseTimer := startTimer (s.machine.brakes.get m).tRel })

/-- The test of the release condition, made in SET only (R69). -/
def testRelease (m : Motion) (s : State) : State :=
  if s.brakeSet m && releaseCondition s m then beginRelease m s else s

/-! ### Layer 3: the general insertion and removal -/

/-- What a change of permit state does (R7): an entry into STOPPED or TRIPPED halts the motion; a change among FREE and
CAPPED is an event at which the release condition is tested (R69). -/
def permitChanged (m : Motion) (new : Permit) (s : State) : State :=
  match new with
  | .tripped => enterHalt m true s
  | .stopped => enterHalt m false s
  | _ => testRelease m s

/-- A record takes a new reason set, and a changed permit state is handed on (R3, R4, R7). -/
def replaceReasons (m : Motion) (rs : List Reason) (s : State) : State :=
  if permitOf rs = s.permit m then s.setReasons m rs else permitChanged m (permitOf rs) (s.setReasons m rs)

/-- The insertion of a reason is asked (R3). -/
def insertReason (m : Motion) (e : Reason) (s : State) : State :=
  replaceReasons m (insertEntry (s.records.get m).reasons e) s

/-- The removal of a reason is asked (R4). -/
def removeReason (m : Motion) (src : Source) (s : State) : State :=
  replaceReasons m (removeEntry (s.records.get m).reasons src) s

/-- The insertion or the removal of a STOP is asked. -/
def setStop (m : Motion) (src : Source) (want : Bool) (s : State) : State :=
  if want then insertReason m ⟨src, .stop⟩ s else removeReason m src s

/-! ### The horn arbiter (R156) and the walk warning's grant (R124) -/

/-- The beginning of the grant, handed to the walk warning. -/
def grantBegins (s : State) : State :=
  if s.walk.warning = .sounding then
    s.setWalk { s.walk with grantHeld := true, warnTimer := startTimer s.machine.warnTime }
  else s

/-- The end of the grant, handed to the walk warning: grant held becomes false and, while SOUNDING, the warning timer
stops. -/
def grantEnds (s : State) : State :=
  s.setWalk { s.walk with grantHeld := false,
                          warnTimer := if s.walk.warning = .sounding then none else s.walk.warnTimer }

/-- The horn generator for a grant: restarted with the requester's pattern, or stopped. -/
def hornGen (s : State) : Option Requester → Gen
  | some q => genStart (s.ann.patterns.get q.pattern)
  | none => genStop s.ann.gens.horn

/-- The arbiter finds the highest active requester; a finding that differs from the grant changes it (R156). -/
def arbitrate (s : State) : State :=
  let new := highestRequester s
  let old := s.ann.grant
  if new = old then s
  else
    let s := if old = some .walk then grantEnds s else s
    let s := s.setAnn { s.ann with grant := new, gens := { s.ann.gens with horn := hornGen s new } }
    if new = some .walk then grantBegins s else s

/-- The walk warning's request is handed to the arbiter (R155). -/
def setWalkHorn (b : Bool) (s : State) : State := arbitrate (s.setWalk { s.walk with hornRequest := b })

/-- The operator horn request is handed to the arbiter (R155). -/
def setOperatorHorn (b : Bool) (s : State) : State := arbitrate (s.setAnn { s.ann with operatorRequest := b })

/-! ### The walk timers that follow levels (R118, R125) -/

/-- The angle of a cam as the tracker holds it. -/
def camAngle (s : State) : Axis → Nat := fun a => (s.tracker.axes.get a).pos

/-- The lagging cam's progress: the right cam's when D is 0 or positive, the left cam's otherwise (R112). -/
def laggingProgress (s : State) : Nat :=
  match s.walk.table, s.walk.diff with
  | some t, some d => progressOf t (camAngle s (if 0 ≤ d then .camR else .camL))
  | _, _ => 0

/-- The stall watch is tested: it starts the stall timer as it becomes active and stops it as it becomes inactive (R118).
-/
def testStallWatch (s : State) : State :=
  if stallWatchActive s then
    match s.walk.stallTimer with
    | some _ => s
    | none => s.setWalk { s.walk with stallTimer := startTimer s.machine.stallTime, stallBase := laggingProgress s }
  else s.setWalk { s.walk with stallTimer := none }

/-- The validity timer runs while its parts hold (R125). -/
def testValidity (s : State) : State :=
  if validityRuns s then
    match s.walk.validTimer with
    | some _ => s
    | none => s.setWalk { s.walk with validTimer := startTimer s.machine.warnValid }
  else s.setWalk { s.walk with validTimer := none }

/-- Both tests, made after every event that may change one of their parts. -/
def testWalkTimers (s : State) : State := testValidity (testStallWatch s)

end Sys2Proof.Machine
end

