-- ==== Sys2Proof/Machine/Alarms.lean ====
section
/-! DEFINITION. The alarm processor: the delay-on, the five-state machine, consequences, the active list, the first-out
mark and the trip record, shelving, silence and the alarm horn request, the taking of sources, and the events of its own
timers (chapter 8). -/

namespace Sys2Proof.Machine
open Sys2Proof

/-- A slot with another runtime record. -/
def setRun (n : Fin 64) (r : AlarmRun) (s : State) : State :=
  s.setAlarms { s.alarms with runs := s.alarms.runs.set n r }

/-- The alarm horn request is evaluated; a change is handed to the arbiter (R145). -/
def evalAlarmHorn (s : State) : State :=
  if hornCause s.alarms = s.alarms.hornRequest then s
  else arbitrate (s.setAlarms { s.alarms with hornRequest := hornCause s.alarms })

/-! ### Consequences (R139) -/

/-- The motions of a definition's motion set. -/
def motionsOf (d : AlarmDef) : List Motion := allMotions.filter (fun m => d.motions.get m)

/-- The insertion of ALARM n is asked in each record of the motion set. -/
def placeConsequence (n : Fin 64) (d : AlarmDef) (s : State) : State :=
  match consequenceEffect d.cls with
  | none => s
  | some e => (motionsOf d).foldl (fun t m => insertReason m ⟨.alarm n, e⟩ t) s

/-- The removal of ALARM n is asked in each record of the motion set. -/
def dropConsequence (n : Fin 64) (d : AlarmDef) (s : State) : State :=
  match consequenceEffect d.cls with
  | none => s
  | some _ => (motionsOf d).foldl (fun t m => removeReason m (.alarm n) t) s

/-- The change to the records at a change of alarm state: an entry where the alarm comes into effect, a removal where it
goes out of effect, nothing otherwise. -/
def changeConsequence (n : Fin 64) (d : AlarmDef) (old new : AlarmState) (s : State) : State :=
  if inEffect d new && !inEffect d old then placeConsequence n d s
  else if inEffect d old && !inEffect d new then dropConsequence n d s
  else s

/-! ### First-out and the trip record (R141, R142) -/

/-- The machine as it stands at a first-out trip (R142). -/
def tripRecordOf (n : Fin 64) (s : State) : TripRecord :=
  { alarm := n, time := s.ctl.time, refs := s.channels.map Channel.r, positions := s.tracker.axes.map Track.pos }

/-- The first-out rule at a raise: the mark goes to the raised STOP or TRIP alarm if no other one is outside NORMAL, and
a TRIP alarm that did not hold it has the trip record captured. -/
def markFirstOut (n : Fin 64) (d : AlarmDef) (s : State) : State :=
  if d.cls.isStopOrTrip && !((List.finRange 64).any (fun k => decide (k ≠ n) && stopTripActive s.alarms k)) then
    let capture := d.cls.isTrip && decide (s.alarms.firstOut ≠ some n)
    s.setAlarms { s.alarms with firstOut := some n, trip := if capture then some (tripRecordOf n s) else s.alarms.trip }
  else s

/-- The first-out rule at an entry of a STOP or TRIP alarm into NORMAL: the mark ends with the last such alarm. `d` is
the definition by which the entry is judged. -/
def clearFirstOut (d : AlarmDef) (s : State) : State :=
  if d.cls.isStopOrTrip && !((List.finRange 64).any (stopTripActive s.alarms)) then
    s.setAlarms { s.alarms with firstOut := none }
  else s

/-! ### The state machine (R135, R137, R138, R140) -/

/-- An alarm enters NORMAL: it leaves the active list (R140) and may end the first-out mark (R141). -/
def leaveActiveList (n : Fin 64) (d : AlarmDef) (s : State) : State :=
  clearFirstOut d (s.setAlarms { s.alarms with active := s.alarms.active.erase n })

/-- A change of an alarm's state, with the list, the mark, the consequence and the horn request (R139, R140, R145). -/
def moveAlarm (n : Fin 64) (d : AlarmDef) (new : AlarmState) (s : State) : State :=
  let run := s.alarms.runs[n]
  let s := setRun n { run with state := new } s
  let s := if new = .normal then leaveActiveList n d s else s
  evalAlarmHorn (changeConsequence n d run.state new s)

/-- A raise (R135): the count, the time, the place at the tail of the list, the first-out rule, the silence flag, then
the state RAISED. -/
def raiseAlarm (n : Fin 64) (d : AlarmDef) (s : State) : State :=
  let run := s.alarms.runs[n]
  let s := setRun n { run with count := min (run.count + 1) 255, lastRaise := some s.ctl.time } s
  let s := s.setAlarms { s.alarms with active := s.alarms.active.erase n ++ [n] }
  let s := markFirstOut n d s
  let s := if d.horn && run.shelvedUntil.isNone then s.setAlarms { s.alarms with silence := false } else s
  moveAlarm n d .raised s

/-- A change of the filtered condition (R135). -/
def setFiltered (n : Fin 64) (d : AlarmDef) (v : Bool) (s : State) : State :=
  let s := setRun n { s.alarms.runs[n] with filtered := v, delay := none } s
  match v, (s.alarms.runs[n]).state with
  | true, .normal => raiseAlarm n d s
  | true, .returned => raiseAlarm n d s
  | true, .latched => raiseAlarm n d s
  | false, .raised => moveAlarm n d .returned s
  | false, .held => moveAlarm n d (if d.latching then .latched else .normal) s
  | _, _ => s

/-- A change of the raw condition (R134). -/
def setRaw (n : Fin 64) (d : AlarmDef) (v : Bool) (s : State) : State :=
  let run := s.alarms.runs[n]
  if v then
    if d.delayOn = 0 then setFiltered n d true (setRun n { run with raw := true } s)
    else setRun n { run with raw := true, delay := startTimer (d.delayOn * 10) } s
  else
    let s := setRun n { run with raw := false, delay := none } s
    if run.filtered then setFiltered n d false s else s

/-- The raw condition of a slot is formed again (R133). -/
def reformRaw (n : Fin 64) (s : State) : State :=
  match s.alarms.defs[n] with
  | none => s
  | some d => if rawCondition s.alarms d = (s.alarms.runs[n]).raw then s else setRaw n d (rawCondition s.alarms d) s

/-- A changed source reaches the alarms that take it, in either order (R133, R146). -/
def sourceChanged (src : AlarmSource) (s : State) : State := takeEither reformRaw (slotsOf s.alarms src) s

/-- Changed sources are taken one after another in either order (R133). Sources that no definition takes change nothing
and are left out of the order. -/
def sourcesChanged (srcs : List AlarmSource) (s : State) : State :=
  takeEither sourceChanged (srcs.filter (fun x => !(slotsOf s.alarms x).isEmpty)) s

/-! ### Taking the sources (R133) -/

/-- The bit set of the internal conditions as their owners hold them. -/
def internalBits (s : State) : BitVec 20 :=
  (List.finRange 20).foldl (fun v c => if conditionValue s c then v ||| (1#20 <<< c.val) else v) 0#20

/-- The internal conditions that changed since they were last handed on, taken in either order. -/
def handConditions (s : State) : State :=
  let changed := (List.finRange 20).filter (fun c => decide (conditionValue s c ≠ s.alarms.internals.getLsbD c.val))
  sourcesChanged (changed.map AlarmSource.internal) (s.setAlarms { s.alarms with internals := internalBits s })

/-- Every change of an internal condition is handed to the alarm processor. The alarms so raised may trip WALK, and with
its r WALK_STALL falls (R118), so the hand-on is made twice; a second one changes no condition, since r is then 0. -/
def syncConditions (s : State) : State := handConditions (handConditions s)

/-- One change of an internal condition, handed on by itself (R25: each change when it is made). -/
def handCondition (c : Fin 20) (v : Bool) (s : State) : State :=
  let bit := 1#20 <<< c.val
  sourcesChanged [.internal c] (s.setAlarms { s.alarms with
    internals := if v then s.alarms.internals ||| bit else s.alarms.internals &&& ~~~bit })

/-- The fault inputs of a valid DRIVE_FEEDBACK (R133). -/
def takeDriveInputs (v : BitVec 32) (s : State) : State :=
  let changed := (List.finRange 32).filter (fun (i : Fin 32) => decide ((s.alarms.driveInputs.map (fun o => o.getLsbD i.val)) ≠
    some (v.getLsbD i.val)))
  sourcesChanged (changed.map AlarmSource.driveInput) (s.setAlarms { s.alarms with driveInputs := some v })

/-- The cab inputs of a valid CAB_COMMAND (R133). -/
def takeCabInputs (v : BitVec 16) (s : State) : State :=
  let changed := (List.finRange 16).filter (fun (i : Fin 16) => decide ((s.alarms.cabInputs.map (fun o => o.getLsbD i.val)) ≠
    some (v.getLsbD i.val)))
  sourcesChanged (changed.map AlarmSource.cabInput) (s.setAlarms { s.alarms with cabInputs := some v })

/-! ### Acknowledgement, reset, silence (R136, R137, R138, R144) -/

/-- Acknowledgement of one alarm (R137). -/
def acknowledge (n : Fin 64) (s : State) : State :=
  match s.alarms.defs[n] with
  | none => s
  | some d =>
    match (s.alarms.runs[n]).state with
    | .raised => moveAlarm n d .held s
    | .returned => moveAlarm n d (if d.latching then .latched else .normal) s
    | _ => s

/-- Reset of one alarm (R138). -/
def resetAlarm (n : Fin 64) (s : State) : State :=
  match s.alarms.defs[n] with
  | none => s
  | some d => if (s.alarms.runs[n]).state = .latched then moveAlarm n d .normal s else s

/-- The alarms an acknowledgement would move: RAISED or RETURNED. -/
def ackable (a : AlarmProc) : List (Fin 64) := (List.finRange 64).filter (unacknowledged a)

/-- The alarms a reset would move: LATCHED. -/
def resettable (a : AlarmProc) : List (Fin 64) :=
  (List.finRange 64).filter (fun n => decide ((a.runs[n]).state = .latched))

/-- Every alarm is acknowledged, one after another in either order (R137, R146). -/
def acknowledgeAll (s : State) : State := takeEither acknowledge (ackable s.alarms) s

/-- Every LATCHED alarm is reset, one after another in either order (R138, R146). -/
def resetAll (s : State) : State := takeEither resetAlarm (resettable s.alarms) s

/-- The silence edge sets the silence flag, and the horn request is evaluated again (R144, R145). -/
def setSilence (s : State) : State := evalAlarmHorn (s.setAlarms { s.alarms with silence := true })

/-- The three button actions of the cab (R136). -/
inductive CabButton where
  | ack | reset | silence
deriving DecidableEq, Repr

def pressButton : CabButton → State → State
  | .ack, s => acknowledgeAll s
  | .reset, s => resetAll s
  | .silence, s => setSilence s

/-- The rising edges of a frame's buttons against the last ones; none where the last bits are absent (R136). -/
def risingEdges (last : Option Buttons) (b : Buttons) : List CabButton :=
  match last with
  | none => []
  | some o =>
    (if b.ack && !o.ack then [CabButton.ack] else []) ++ (if b.reset && !o.reset then [CabButton.reset] else []) ++
      (if b.silence && !o.silence then [CabButton.silence] else [])

/-- The acknowledge, reset and silence bits of a valid CAB_COMMAND: edges act one after another in either order (R136).
-/
def takeButtons (b : Buttons) (s : State) : State :=
  takeEither pressButton (risingEdges s.alarms.lastButtons b) (s.setAlarms { s.alarms with lastButtons := some b })

/-! ### Shelving (R143) -/

/-- Shelving of an alarm begins or ends, and the horn request is evaluated again. -/
def setShelved (n : Fin 64) (t : Option (BitVec 32)) (s : State) : State :=
  evalAlarmHorn (setRun n { s.alarms.runs[n] with shelvedUntil := t } s)

/-! ### After an event -/

/-- What closes every event that may have changed a condition or a part of the walk timers: changed conditions are
handed on, and the stall watch and the validity timer are tested. The validity timer is tested before the hand-on too: a
sample that makes r non-zero stops it, though an alarm that the sample's WALK_SYNC raises trips the walk and zeroes r again,
so that the timer starts from 0 (R125). -/
def afterEvent (s : State) : State := testWalkTimers (syncConditions (testValidity s))

/-- The events of a part that is held in reset have no effect (R167). -/
def whenRunning (f : State → State) (s : State) : State := if s.held then s else f s

/-! ### The timer events of the alarm processor -/

/-- ALARM_DELAY_EXPIRY (R134). -/
def alarmDelayExpiry (n : Fin 64) (s : State) : State :=
  match s.alarms.defs[n] with
  | none => s
  | some d => if timerDue (s.alarms.runs[n]).delay then afterEvent (setFiltered n d true s) else s

def execAlarmDelayExpiry (n : Fin 64) (s : State) : Host.Outcome State Fault Refusal :=
  .next (whenRunning (alarmDelayExpiry n) s)

/-- SHELVING_EXPIRY (R143): shelving ends at the event at which machine time reaches shelved-until. -/
def shelvingExpiry (n : Fin 64) (s : State) : State :=
  match (s.alarms.runs[n]).shelvedUntil with
  | none => s
  | some t => if shelvingReached s.ctl.time t then setShelved n none s else s

def execShelvingExpiry (n : Fin 64) (s : State) : Host.Outcome State Fault Refusal :=
  .next (whenRunning (shelvingExpiry n) s)

end Sys2Proof.Machine
end

