-- ==== Sys2Proof/Machine/Tracker.lean ====
section
/-! DEFINITION. The position tracker (chapter 2): the taking of raw counts and reference bits, jump rejection, the rope and
circular positions, referencing, and what a change of the axis parameters does. -/

namespace Sys2Proof.Machine
open Sys2Proof

/-- HOIST and DRAG are the rope axes (section 2.1). -/
def Axis.isRope : Axis → Bool
  | .hoist => true
  | .drag => true
  | _ => false

/-- The motion an axis belongs to (section 0.6). -/
def Axis.motion : Axis → Motion
  | .hoist => .hoist
  | .drag => .drag
  | .swing => .swing
  | .camL => .walk
  | .camR => .walk

def allAxes : List Axis := [.hoist, .drag, .swing, .camL, .camR]

/-- The number of POSITION_JUMP(axis) among the internal conditions (R25). -/
def jumpCondition : Axis → Fin 20
  | .hoist => 13
  | .drag => 14
  | .swing => 15
  | .camL => 16
  | .camR => 17

/-- The delta of an arrival (R29): the difference of the raw counts modulo 65536, read as a signed number, with its sign
reversed under INVERTED. -/
def rawDelta (p : AxisParams) (last new : Nat) : Int :=
  let diff : Int := ((new : Int) - last) % 65536
  let signed := if 32768 ≤ diff then diff - 65536 else diff
  match p.polarity with
  | .normal => signed
  | .inverted => -signed

/-- A rope axis's accumulator after an accepted delta, saturating (R32). -/
def ropeSum (acc delta : Int) : Int := limitInt (-2147483648) 2147483647 (acc + delta)

/-- A rope position from the base and the whole accumulator, before the clamp (R32). -/
def ropeUnclamped (p : AxisParams) (base : Nat) (acc : Int) : Int := base + (acc * p.u).fdiv p.v

/-- A rope axis with a new accumulator: position clamped to 0..9999, OVER_RANGE while the clamp holds (R32). -/
def ropePlace (p : AxisParams) (t : Track) (acc : Int) : Track :=
  let x := ropeUnclamped p t.base acc
  { t with acc := acc, pos := (limitInt 0 9999 x).toNat, overRange := decide (x < 0) || decide (9999 < x) }

/-- A circular axis with a new accumulator: the angle is the base plus the floored share, modulo 3600 (R33). -/
def circlePlace (p : AxisParams) (t : Track) (acc : Int) : Track :=
  { t with acc := acc, pos := (((t.base : Int) + (acc * 3600).fdiv p.n) % 3600).toNat }

/-- An accepted delta: accumulated, the position computed again, the jump counter 0 (R30, R32, R33). -/
def acceptDelta (a : Axis) (p : AxisParams) (delta : Int) (t : Track) : Track :=
  let t' := if Axis.isRope a then ropePlace p t (ropeSum t.acc delta) else circlePlace p t ((t.acc + delta) % p.n)
  { t' with jumps := 0 }

/-- A rejected delta: the jump counter grows to at most 3; as it reaches 3 the axis loses its reference and
POSITION_JUMP(axis) becomes true (R30, R31). -/
def rejectDelta (t : Track) : Track :=
  if t.jumps < 2 then { t with jumps := t.jumps + 1 }
  else if t.jumps = 2 then { t with jumps := 3, referenced := false, jumped := true }
  else t

/-- Whether a delta is accepted (R30). -/
def deltaAccepted (p : AxisParams) (delta : Int) : Bool := decide (delta.natAbs ≤ p.maxDelta)

/-- The count step of an arrival (R27): with counts not based the axis is re-based (R28); otherwise the delta is accepted
or rejected. The new raw count becomes the last one in every case. -/
def countStep (a : Axis) (p : AxisParams) (based : Bool) (raw : Nat) (t : Track) : Track :=
  let t' :=
    if based then
      let d := rawDelta p t.lastRaw raw
      if deltaAccepted p d then acceptDelta a p d t else rejectDelta t
    else { t with jumps := 0 }
  { t' with lastRaw := raw }

/-- An axis referenced at a value (R34, R35). -/
def referenceAt (value : Nat) (t : Track) : Track :=
  { t with acc := 0, base := value, pos := value, overRange := false, referenced := true, jumps := 0, jumped := false }

/-- The mark step of an arrival (R27): a rising edge of the reference bit, taken with counts based, references the axis
at MARK_POS (R34). The new bit becomes the last one. -/
def markStep (p : AxisParams) (based : Bool) (bit : Bool) (t : Track) : Track :=
  let t' := if based && bit && !t.lastRef then referenceAt p.markPos t else t
  { t' with lastRef := bit }

/-- The delta handed to the walk sequencer: present where it was accepted (R38). -/
def handedDelta (p : AxisParams) (based : Bool) (raw : Nat) (t : Track) : Option Int :=
  let d := rawDelta p t.lastRaw raw
  if based && deltaAccepted p d then some d else none

/-- The changes of POSITION_JUMP(axis) that an arrival makes, in order: at the count step, then at the mark step (R25,
R31, R34). -/
def jumpChanges (a : Axis) (before afterCount afterMark : Track) : List (Fin 20 × Bool) :=
  (if before.jumped = afterCount.jumped then [] else [(jumpCondition a, afterCount.jumped)]) ++
    (if afterCount.jumped = afterMark.jumped then [] else [(jumpCondition a, afterMark.jumped)])

/-- Each axis with its raw count and reference bit of one frame taken (R27). -/
def takeAxisCounts (s : State) (raws : PerAxis Nat) (bits : PerAxis Bool) (a : Axis) : Track :=
  let p := s.axisParams.get a
  let based := s.tracker.countsBased
  markStep p based (bits.get a) (countStep a p based (raws.get a) (s.tracker.axes.get a))

/-- The tracker after an arrival: every axis taken, and the counts based (R27). -/
def trackerAfter (s : State) (raws : PerAxis Nat) (bits : PerAxis Bool) : Tracker :=
  { axes := ⟨takeAxisCounts s raws bits .hoist, takeAxisCounts s raws bits .drag, takeAxisCounts s raws bits .swing,
             takeAxisCounts s raws bits .camL, takeAxisCounts s raws bits .camR⟩,
    countsBased := true }

/-- The changes of one axis's jump condition that an arrival makes. -/
def axisJumpChanges (s : State) (raws : PerAxis Nat) (bits : PerAxis Bool) (a : Axis) : List (Fin 20 × Bool) :=
  let t := s.tracker.axes.get a
  jumpChanges a t (countStep a (s.axisParams.get a) s.tracker.countsBased (raws.get a) t) (takeAxisCounts s raws bits a)

/-- The tracker's part of a DRIVE_FEEDBACK: the axes are taken, then the changes of the jump conditions are handed to the
alarm processor, those of one axis in the order made, the axes in either order (R27, R38, R133). DESIGN CHOICE (log entry
22): the changes are handed on after the count and mark steps of all five axes, so that a trip record captured at one of
them shows the positions that the whole arrival leaves; R25 has each change handed on when it is made, and the spec does
not say how far the other axes, or the mark step of the same axis, have been taken by then. -/
def takeCounts (raws : PerAxis Nat) (bits : PerAxis Bool) (s : State) : State :=
  takeEither (fun a t => (axisJumpChanges s raws bits a).foldl (fun u c => handCondition c.1 c.2 u) t)
    (allAxes.filter (fun a => !(axisJumpChanges s raws bits a).isEmpty)) (s.setTracker (trackerAfter s raws bits))

/-- An axis referenced by request (R35). -/
def setPosition (a : Axis) (value : Nat) (s : State) : State :=
  s.setTracker { s.tracker with axes := s.tracker.axes.set a (referenceAt value (s.tracker.axes.get a)) }

/-- The tracking state of an axis after an accepted AXIS write (R37): a change of POLARITY, U, V or N re-bases the
accumulator at the present position and unreferences the axis. -/
def trackAfterWrite (old new : AxisParams) (t : Track) : Track :=
  if old.polarity = new.polarity ∧ old.u = new.u ∧ old.v = new.v ∧ old.n = new.n then t
  else { t with acc := 0, base := t.pos, referenced := false, overRange := false }

end Sys2Proof.Machine
end

