-- ==== Sys2Proof/Machine/ZoneCaps.lean ====
section
/-! DEFINITION. Zone tables: the zone that contains a position, the zones within lookahead with their distances, the
candidates and the zone caps (R11, R12, R15 to R20), and the walk-window test (R96). -/

namespace Sys2Proof.Machine
open Sys2Proof

/-- A zone's cap in one direction. -/
def Zone.cap (z : Zone) : Dir → Nat
  | .pos => z.capPos
  | .neg => z.capNeg

/-- The zones of a table, each with the start of the next one; the last is followed by `wrap`. -/
def withNext (wrap : Nat) : List Zone → List (Zone × Nat)
  | [] => []
  | [z] => [(z, wrap)]
  | z :: z' :: rest => (z, z'.start) :: withNext wrap (z' :: rest)

/-! ### Linear tables (R11, R17) -/

/-- The zones of a linear table with their upper bounds: one below the next lower bound, and 9999 for the last (R11). -/
def linearZones (zs : List Zone) : List (Zone × Nat) := (withNext 10000 zs).map (fun p => (p.1, p.2 - 1))

/-- The distance at which a linear zone is reached from payout `x` in a direction, if it is (R17). -/
def linearDistance (lookahead x : Nat) (d : Dir) (z : Zone × Nat) : Option Nat :=
  if z.1.start ≤ x ∧ x ≤ z.2 then some 0
  else match d with
    | .pos => if z.2 < x ∧ x - z.2 ≤ lookahead then some (x - z.2) else none
    | .neg => if x < z.1.start ∧ z.1.start - x ≤ lookahead then some (z.1.start - x) else none

/-! ### The circular table (R12, R18) -/

/-- The zones of a circular table with their last angles: one below the next start, wrapped (R12). -/
def circularZones (zs : List Zone) : List (Zone × Nat) :=
  (withNext ((zs.head?.map Zone.start).getD 0) zs).map (fun p => (p.1, (p.2 + 3599) % 3600))

/-- `a` less `b`, modulo 3600. -/
def angleDiff (a b : Nat) : Nat := (a + 3600 - b % 3600) % 3600

/-- Whether a circular zone, with its last angle, contains an angle (R12). -/
def circleContains (x : Nat) (z : Zone × Nat) : Bool := decide (angleDiff x z.1.start ≤ angleDiff z.2 z.1.start)

/-- The distance at which a circular zone is reached from angle `x` in a direction, if it is (R18). -/
def circularDistance (lookahead x : Nat) (d : Dir) (z : Zone × Nat) : Option Nat :=
  if circleContains x z then some 0
  else
    let dist := match d with
      | .pos => angleDiff z.1.start x
      | .neg => angleDiff x z.2
    if dist ≤ lookahead then some dist else none

/-! ### The zone caps (R15, R16, R19) -/

/-- The least candidate, limited to 1000: a reached zone's candidate is its cap plus its distance times the slope (R19).
-/
def leastCandidate (slope : Nat) (d : Dir) (distance : Zone × Nat → Option Nat) (zs : List (Zone × Nat)) : Nat :=
  (zs.filterMap (fun z => (distance z).map (fun dist => z.1.cap d + dist * slope))).foldl min 1000

/-- The least cap of all the zones of a table (R16). -/
def leastCap (d : Dir) (zs : List Zone) : Nat := (zs.map (fun z => z.cap d)).foldl min 1000

/-- The zone cap of a motion other than WALK, in one of the three forms of R15. -/
def zoneCapOf (circular : Bool) (zs : List Zone) (p : AxisParams) (t : Track) (d : Dir) : Nat :=
  if zs.isEmpty then 0
  else if t.referenced then
    if circular then leastCandidate p.slope d (circularDistance p.lookahead t.pos d) (circularZones zs)
    else leastCandidate p.slope d (linearDistance p.lookahead t.pos d) (linearZones zs)
  else leastCap d zs

/-! ### Walk phases (R110, R111, R20) -/

/-- The row of a phase. -/
def PhaseTable.row (t : PhaseTable) : Phase → PhaseRow
  | .raised => t.raised
  | .lowering => t.lowering
  | .lifting => t.lifting
  | .stepping => t.stepping
  | .settingDown => t.settingDown
  | .raising => t.raising

/-- The phase whose range holds a progress: each phase begins at the progress of its first boundary (R111). -/
def phaseOfProgress (t : PhaseTable) (p : Nat) : Phase :=
  if p < progressOf t t.lowering.bound then .raised
  else if p < progressOf t t.lifting.bound then .lowering
  else if p < progressOf t t.stepping.bound then .lifting
  else if p < progressOf t t.settingDown.bound then .stepping
  else if p < progressOf t t.raising.bound then .settingDown
  else .raising

/-- The phase of an angle (R111). -/
def phaseAt (t : PhaseTable) (angle : Nat) : Phase := phaseOfProgress t (progressOf t angle)

/-- The phase of a cam: none where its axis is UNREFERENCED or the table is empty (R111). -/
def camPhase (table : Option PhaseTable) (t : Track) : Option Phase :=
  match table with
  | none => none
  | some tab => if t.referenced then some (phaseAt tab t.pos) else none

/-- A phase row's cap in one direction. -/
def PhaseRow.cap (r : PhaseRow) : Dir → Nat
  | .pos => r.capPos
  | .neg => r.capNeg

/-- The zone cap of WALK (R20): 0 with an empty table; CREEP_CAP forward and 0 in reverse while a cam is UNREFERENCED; the
lesser of the two cams' phase caps otherwise. -/
def walkZoneCap (s : State) (d : Dir) : Nat :=
  match s.walk.table with
  | none => 0
  | some t =>
    if s.tracker.axes.camL.referenced && s.tracker.axes.camR.referenced then
      min ((t.row (phaseAt t s.tracker.axes.camL.pos)).cap d) ((t.row (phaseAt t s.tracker.axes.camR.pos)).cap d)
    else match d with
      | .pos => s.machine.creepCap
      | .neg => 0

/-- The zone cap of any motion in one direction, at a sample expiry (R15). -/
def zoneCap (s : State) (m : Motion) (d : Dir) : Nat :=
  match m with
  | .hoist => zoneCapOf false s.zones.hoist s.axisParams.hoist s.tracker.axes.hoist d
  | .drag => zoneCapOf false s.zones.drag s.axisParams.drag s.tracker.axes.drag d
  | .swing => zoneCapOf true s.zones.swing s.axisParams.swing s.tracker.axes.swing d
  | .walk => walkZoneCap s d

/-- The walk-window test (R96). -/
def walkWindowTest (s : State) : Bool :=
  s.tracker.axes.swing.referenced &&
    (circularZones s.zones.swing).any (fun z => circleContains s.tracker.axes.swing.pos z && z.1.window)

end Sys2Proof.Machine
end

