-- ==== Sys2Proof/Machine/Encodings.lean ====
section
/-! DEFINITION. The table encodings of R182, in both directions: what a TABLE_READ returns, and what a TABLE_WRITE
carries. A decoder answers none where R11, R12, R14, R26, R43, R44, R68, R80, R95, R109, R110, R131, R149 or R152 calls
the table malformed or a field out of range. -/

namespace Sys2Proof.Machine
open Sys2Proof

/-- A number within bounds. -/
def ranged (lo hi n : Nat) : Option Nat := if lo ≤ n ∧ n ≤ hi then some n else none

/-- An alarm number. -/
def alarmOfCode (n : Nat) : Option (Fin 64) := if h : n < 64 then some ⟨n, h⟩ else none

/-- Every element decoded, or none. -/
def decodeAll {α β : Type} (f : α → Option β) : List α → Option (List β)
  | [] => some []
  | a :: as =>
    match f a, decodeAll f as with
    | some b, some bs => some (b :: bs)
    | _, _ => none

/-- A list strictly increases. -/
def increasing : List Nat → Bool
  | [] => true
  | [_] => true
  | a :: b :: rest => decide (a < b) && increasing (b :: rest)

/-! ### Coefficient records and CHANNEL (R43, R44) -/

/-- A term byte: bit 7 present, bit 6 the sign, bits 3..0 the exponent (R182). -/
def encodeTerm (t : Term) : Byte := byteOf (128 + (if t.minus then 64 else 0) + t.exp)

/-- A coefficient record, absent places last (R182). -/
def encodeCoeff (c : List Term) : List Byte := (c.map encodeTerm ++ [0#8, 0#8, 0#8]).take 3

/-- The terms of the present places. -/
def presentTerms (bs : List Byte) : List Term :=
  (bs.filter (fun b => b.getLsbD 7)).map (fun b => ⟨b.getLsbD 6, b.toNat % 16⟩)

/-- A term put into a list in ascending order of exponent. -/
def insertTerm (t : Term) : List Term → List Term
  | [] => [t]
  | u :: us => if t.exp ≤ u.exp then t :: u :: us else u :: insertTerm t us

/-- The terms in ascending order of exponent (R43). -/
def sortTerms (ts : List Term) : List Term := ts.foldr insertTerm []

/-- A coefficient record is well formed: at most three terms, exponents at most 12, no two alike (R43). -/
def coeffOk (ts : List Term) : Bool :=
  decide (ts.length ≤ 3) && ts.all (fun t => decide (t.exp ≤ 12)) && increasing ((sortTerms ts).map Term.exp)

def decodeCoeff (bs : List Byte) : Option (List Term) :=
  if coeffOk (presentTerms bs) then some (sortTerms (presentTerms bs)) else none

/-- `n` groups of `size` bytes. -/
def groups (size : Nat) : Nat → List Byte → List (List Byte)
  | 0, _ => []
  | n + 1, bs => bs.take size :: groups size n (bs.drop size)

/-- CHANNEL, 35 bytes. -/
def encodeChannel (p : ChannelParams) : List Byte :=
  le16 p.db ++ encodeCoeff p.gain ++ (p.taps.map encodeCoeff).flatten ++ le16 p.aUp ++ le16 p.aDown ++ le16 p.aStop

def decodeChannel (b : List Byte) : Option ChannelParams :=
  match ranged 0 200 (wordAt b 0), decodeCoeff ((b.drop 2).take 3), decodeAll decodeCoeff (groups 3 8 (b.drop 5)),
      ranged 1 200 (wordAt b 29), ranged 1 200 (wordAt b 31), ranged 1 500 (wordAt b 33) with
  | some db, some gain, some taps, some up, some down, some stop => some ⟨db, gain, taps, up, down, stop⟩
  | _, _, _, _, _, _ => none

/-! ### ZONES (R11, R12) -/

def encodeLinearZone (z : Zone) : List Byte := le16 z.start ++ le16 z.capPos ++ le16 z.capNeg

def encodeCircularZone (z : Zone) : List Byte := encodeLinearZone z ++ [bit8 z.window]

/-- ZONES: the count, then the zones (R182). -/
def encodeZones (circular : Bool) (zs : List Zone) : List Byte :=
  byteOf zs.length :: (zs.map (if circular then encodeCircularZone else encodeLinearZone)).flatten

def decodeLinearZone (b : List Byte) : Option Zone :=
  match ranged 0 9999 (wordAt b 0), ranged 0 1000 (wordAt b 2), ranged 0 1000 (wordAt b 4) with
  | some start, some pos, some neg => some ⟨start, pos, neg, false⟩
  | _, _, _ => none

def decodeCircularZone (b : List Byte) : Option Zone :=
  match ranged 0 3599 (wordAt b 0), ranged 0 1000 (wordAt b 2), ranged 0 1000 (wordAt b 4), boolOfCode (byteAt b 6) with
  | some start, some pos, some neg, some window => some ⟨start, pos, neg, window⟩
  | _, _, _, _ => none

/-- The count and order of a zone list: 1 to 8 zones, starts strictly increasing, and a linear table's first bound 0. -/
def zoneListOk (circular : Bool) (zs : List Zone) : Bool :=
  decide (1 ≤ zs.length) && decide (zs.length ≤ 8) && increasing (zs.map Zone.start) &&
    (circular || decide (zs.head?.map Zone.start = some 0))

def decodeZones (circular : Bool) (b : List Byte) : Option (List Zone) :=
  let count := byteAt b 0
  let zones :=
    if circular then decodeAll decodeCircularZone (groups 7 count b.tail)
    else decodeAll decodeLinearZone (groups 6 count b.tail)
  match zones with
  | some zs => if zoneListOk circular zs then some zs else none
  | none => none

/-! ### WALK_PHASES (R110) -/

def PhaseTable.rows (t : PhaseTable) : List PhaseRow :=
  [t.raised, t.lowering, t.lifting, t.stepping, t.settingDown, t.raising]

def encodePhaseRow (r : PhaseRow) : List Byte := le16 r.bound ++ le16 r.capPos ++ le16 r.capNeg

/-- WALK_PHASES, 36 bytes, or no bytes where the table is empty (R182). -/
def encodePhases : Option PhaseTable → List Byte
  | none => []
  | some t => (t.rows.map encodePhaseRow).flatten

/-- The length of a phase from one boundary to the next (R110). -/
def phaseLength (a b : Nat) : Nat := angleDiff b a

/-- The six lengths of a table (R110). -/
def phaseLengths (t : PhaseTable) : List Nat :=
  [phaseLength t.raised.bound t.lowering.bound, phaseLength t.lowering.bound t.lifting.bound,
   phaseLength t.lifting.bound t.stepping.bound, phaseLength t.stepping.bound t.settingDown.bound,
   phaseLength t.settingDown.bound t.raising.bound, phaseLength t.raising.bound t.raised.bound]

/-- A table carried in a write is well formed (R110). -/
def phasesOk (t : PhaseTable) : Bool :=
  t.rows.all (fun r => decide (r.bound ≤ 3599) && decide (r.capPos ≤ 1000) && decide (r.capNeg ≤ 1000)) &&
    (phaseLengths t).all (fun n => decide (10 ≤ n)) && decide ((phaseLengths t).sum = 3600)

def phaseRowAt (b : List Byte) (i : Nat) : PhaseRow := ⟨wordAt b i, wordAt b (i + 2), wordAt b (i + 4)⟩

def decodePhases (b : List Byte) : Option PhaseTable :=
  let t : PhaseTable :=
    ⟨phaseRowAt b 0, phaseRowAt b 6, phaseRowAt b 12, phaseRowAt b 18, phaseRowAt b 24, phaseRowAt b 30⟩
  if phasesOk t then some t else none

/-! ### ALARM_DEF (R131) -/

def AlarmClass.code : AlarmClass → Nat
  | .advisory => 0
  | .slow _ => 1
  | .stop => 2
  | .trip => 3

/-- The slow cap a class holds; 0 where it holds none (R182). -/
def AlarmClass.cap : AlarmClass → Nat
  | .slow cap => cap
  | _ => 0

def AlarmSource.kind : AlarmSource → Nat
  | .internal _ => 0
  | .driveInput _ => 1
  | .cabInput _ => 2

def AlarmSource.number : AlarmSource → Nat
  | .internal c => c.val
  | .driveInput i => i.val
  | .cabInput i => i.val

/-- ALARM_DEF, 11 bytes (R182). -/
def encodeAlarmDef : Option AlarmDef → List Byte
  | none => List.replicate 11 0#8
  | some d =>
    [1#8, byteOf d.source.kind, byteOf d.source.number, if d.polarity = .activeTrue then 0#8 else 1#8,
      byteOf d.cls.code, motionSetByte d.motions] ++ le16 d.cls.cap ++ [byteOf d.delayOn, bit8 d.latching, bit8 d.horn]

def sourceOfCode (kind number : Nat) : Option AlarmSource :=
  match kind with
  | 0 => if h : number < 20 then some (.internal ⟨number, h⟩) else none
  | 1 => if h : number < 32 then some (.driveInput ⟨number, h⟩) else none
  | 2 => if h : number < 16 then some (.cabInput ⟨number, h⟩) else none
  | _ => none

def polarityOfCode : Nat → Option AlarmPolarity
  | 0 => some .activeTrue
  | 1 => some .activeFalse
  | _ => none

/-- The class of a code; the slow cap carried counts for SLOW only (R131). -/
def classOfCode (code cap : Nat) : Option AlarmClass :=
  match code with
  | 0 => some .advisory
  | 1 => (ranged 0 1000 cap).map AlarmClass.slow
  | 2 => some .stop
  | 3 => some .trip
  | _ => none

/-- A motion set names at least one motion. -/
def anyMotion (p : PerMotion Bool) : Bool := p.hoist || p.drag || p.swing || p.walk

/-- A definition as it is held: a class with an effect needs a motion, and TRIP is held latching (R131). -/
def heldDef (d : AlarmDef) : Option AlarmDef :=
  if d.cls.isAdvisory || anyMotion d.motions then some { d with latching := d.latching || d.cls.isTrip } else none

/-- The definition a write carries. -/
def decodeDefined (b : List Byte) : Option AlarmDef :=
  match sourceOfCode (byteAt b 1) (byteAt b 2), polarityOfCode (byteAt b 3), classOfCode (byteAt b 4) (wordAt b 6),
      boolOfCode (byteAt b 9), boolOfCode (byteAt b 10) with
  | some source, some polarity, some cls, some latching, some horn =>
    heldDef { source := source, polarity := polarity, cls := cls, motions := motionSetAt b 5, delayOn := byteAt b 8,
              latching := latching, horn := horn }
  | _, _, _, _, _ => none

/-- The slot contents a write carries: `some none` is an empty slot. -/
def decodeAlarmDef (b : List Byte) : Option (Option AlarmDef) :=
  match byteAt b 0 with
  | 0 => some none
  | 1 => (decodeDefined b).map some
  | _ => none

/-! ### LAMP_MAP (R149), PATTERN (R152) -/

def encodeLampMap (xs : List (Fin 64)) : List Byte := byteOf xs.length :: xs.map (fun n => byteOf n.val)

def decodeLampMap (b : List Byte) : Option (List (Fin 64)) :=
  match decodeAll (fun x => alarmOfCode x.toNat) b.tail with
  | some xs => if xs.length ≤ 4 ∧ xs.Nodup then some xs else none
  | none => none

def encodePattern (p : Pattern) : List Byte := [byteOf p.onCount, byteOf p.offCount, byteOf p.scale, bit8 p.steady]

def decodePattern (b : List Byte) : Option Pattern :=
  match ranged 0 7 (byteAt b 2), boolOfCode (byteAt b 3) with
  | some s, some steady => some ⟨byteAt b 0, byteAt b 1, s, steady⟩
  | _, _ => none

def patternOfCode : Nat → Option PatternId
  | 0 => some .alarm
  | 1 => some .walk
  | 2 => some .operator
  | 3 => some .beacon
  | 4 => some .fast
  | 5 => some .slow
  | _ => none

/-! ### AXIS (R14, R26) -/

/-- The circular axes carry N and not U and V; the rope axes carry U and V and not N (R26). -/
def encodeAxis (a : Axis) (p : AxisParams) : List Byte :=
  [if p.polarity = .normal then 0#8 else 1#8] ++ le16 p.maxDelta ++
    (if Axis.isRope a then le16 p.u ++ le16 p.v ++ le16 0 else le16 0 ++ le16 0 ++ le16 p.n) ++
    le16 p.markPos ++ le16 p.lookahead ++ [byteOf p.slope]

/-- The largest mark position, lookahead and slope of an axis (R14, R26). -/
def Axis.markMax : Axis → Nat
  | .hoist => 9999
  | .drag => 9999
  | .swing => 3599
  | _ => 0

def Axis.lookaheadMax : Axis → Nat
  | .hoist => 2000
  | .drag => 2000
  | .swing => 1800
  | _ => 0

def Axis.slopeMax : Axis → Nat
  | .camL => 0
  | .camR => 0
  | _ => 255

def axisPolarityOfCode : Nat → Option Polarity
  | 0 => some .normal
  | 1 => some .inverted
  | _ => none

/-- The scale fields U, V, N of an axis: those its kind does not carry must be 0 and are held at their reset values. -/
def decodeScale (a : Axis) (u v n : Nat) : Option (Nat × Nat × Nat) :=
  if Axis.isRope a then
    match ranged 1 65535 u, ranged 1 65535 v, ranged 0 0 n with
    | some u, some v, some _ => some (u, v, AxisParams.fresh.n)
    | _, _, _ => none
  else
    match ranged 0 0 u, ranged 0 0 v, ranged 3600 65000 n with
    | some _, some _, some n => some (AxisParams.fresh.u, AxisParams.fresh.v, n)
    | _, _, _ => none

def decodeAxis (a : Axis) (b : List Byte) : Option AxisParams :=
  match axisPolarityOfCode (byteAt b 0), ranged 1 32767 (wordAt b 1),
      decodeScale a (wordAt b 3) (wordAt b 5) (wordAt b 7), ranged 0 (Axis.markMax a) (wordAt b 9),
      ranged 0 (Axis.lookaheadMax a) (wordAt b 11), ranged 0 (Axis.slopeMax a) (byteAt b 13) with
  | some pol, some delta, some scale, some mark, some look, some slope =>
    some ⟨pol, delta, scale.1, scale.2.1, scale.2.2, mark, look, slope⟩
  | _, _, _, _, _, _ => none

/-! ### MACHINE (R68, R80, R95, R109) -/

def encodeBrakeParams (p : BrakeParams) : List Byte := le16 p.tRel ++ le16 p.tSet ++ le16 p.tHold ++ le16 p.vRest

/-- MACHINE, 62 bytes, all two-byte fields (R182). -/
def encodeMachine (p : MachineParams) : List Byte :=
  encodeBrakeParams p.brakes.hoist ++ encodeBrakeParams p.brakes.drag ++ encodeBrakeParams p.brakes.swing ++
    encodeBrakeParams p.brakes.walk ++
    ([p.tlTorque, p.hoistTopLimit, p.dragInLimit, p.groundPayout, p.slackTorque, p.vPlug, p.plugCap, p.steerCap,
      p.syncTol, p.syncFault, p.kTrim, p.stallTime, p.warnTime, p.warnValid, p.creepCap].map le16).flatten

def brakeParamsAt (b : List Byte) (i : Nat) : BrakeParams :=
  ⟨wordAt b i, wordAt b (i + 2), wordAt b (i + 4), wordAt b (i + 6)⟩

/-- `lo ≤ n ≤ hi`. -/
def within (lo hi n : Nat) : Bool := decide (lo ≤ n) && decide (n ≤ hi)

/-- R68. -/
def brakeParamsOk (p : BrakeParams) : Bool :=
  within 10 500 p.tRel && within 10 500 p.tSet && within 0 1000 p.tHold && within 0 100 p.vRest

/-- Every field of the MACHINE table lies within its range (R68, R80, R95, R109). -/
def machineOk (p : MachineParams) : Bool :=
  brakeParamsOk p.brakes.hoist && brakeParamsOk p.brakes.drag && brakeParamsOk p.brakes.swing &&
    brakeParamsOk p.brakes.walk && within 0 1000 p.tlTorque && within 0 9999 p.hoistTopLimit &&
    within 0 9999 p.dragInLimit && within 0 9999 p.groundPayout && within 0 1000 p.slackTorque &&
    within 0 1000 p.vPlug && within 1 1000 p.plugCap && within 0 200 p.steerCap && within 0 100 p.syncTol &&
    within p.syncTol 300 p.syncFault && within 0 50 p.kTrim && within 50 1000 p.stallTime && within 100 3000 p.warnTime &&
    within 1000 60000 p.warnValid && within 0 200 p.creepCap

/-- The 62 bytes as a table, before the range checks. -/
def machineFields (b : List Byte) : MachineParams :=
  { brakes := ⟨brakeParamsAt b 0, brakeParamsAt b 8, brakeParamsAt b 16, brakeParamsAt b 24⟩,
    tlTorque := wordAt b 32, hoistTopLimit := wordAt b 34, dragInLimit := wordAt b 36, groundPayout := wordAt b 38,
    slackTorque := wordAt b 40, vPlug := wordAt b 42, plugCap := wordAt b 44, steerCap := wordAt b 46,
    syncTol := wordAt b 48, syncFault := wordAt b 50, kTrim := wordAt b 52, stallTime := wordAt b 54,
    warnTime := wordAt b 56, warnValid := wordAt b 58, creepCap := wordAt b 60 }

def decodeMachine (b : List Byte) : Option MachineParams :=
  if machineOk (machineFields b) then some (machineFields b) else none

end Sys2Proof.Machine
end

