-- ==== Sys2Proof/Machine/Shaper.lean ====
section
/-! DEFINITION. The shaping chain of one sample as arithmetic on one channel: deadband, gain, filter, cap target, rate
limit, clamp, trip and brake gate (R43, R47 to R61), and the check figures (R64, R65). -/

namespace Sys2Proof.Machine
open Sys2Proof

/-- The value of a term in units of 1/4096 (R43). -/
def Term.value (t : Term) : Int := if t.minus then -(2 ^ (12 - t.exp) : Nat) else (2 ^ (12 - t.exp) : Nat)

/-- The value of a coefficient record in units of 1/4096 (R43). -/
def coeffValue (c : List Term) : Int := (c.map Term.value).sum

/-- A number of units of 1/4096 divided by 4096 and rounded to the nearest, ties away from zero (R51, R52). -/
def roundUnits (x : Int) : Int := signInt x * ((x.natAbs + 2048) / 4096 : Nat)

/-- The deadband stage (R50). -/
def deadband (db : Nat) (p : Int) : Int :=
  if p.natAbs ≤ db then 0 else signInt p * ((p.natAbs - db) * 1000 / (1000 - db) : Nat)

/-- A value limited to the per-mille range. -/
def limitMille (x : Int) : Int := limitInt (-1000) 1000 x

/-- Whether a stage's rounded value saturates (R51, R52). -/
def saturates (x : Int) : Bool := decide (x ≠ limitMille x)

/-- The gain stage before its limit (R51). -/
def gainRounded (gain : List Term) (d : Int) : Int := roundUnits (d * coeffValue gain)

/-- The filter stage before its limit: the taps weigh the history, newest first (R52). -/
def filterRounded (taps : List (List Term)) (history : List Int) : Int :=
  roundUnits ((List.zipWith (fun t g => coeffValue t * g) taps history).sum)

/-- The history after a push: the new value at the head, the oldest dropped (R52). -/
def pushHistory (g : Int) (history : List Int) : List Int := (g :: history).take 8

/-- The saturation count after a stage; 65535 is its ceiling (R51). -/
def countSat (n : Nat) (sat : Bool) : Nat := if sat then min (n + 1) 65535 else n

/-- A value limited to a pair of caps, one for each direction (R55, R59). -/
def limitToCaps (pos neg : Nat) (x : Int) : Int :=
  if (pos : Int) < x then pos else if x < -(neg : Int) then -(neg : Int) else x

/-- `r` moved toward `c` by at most `step` (R57). -/
def moveToward (r c : Int) (step : Nat) : Int :=
  if (c - r).natAbs ≤ step then c else if r < c then r + step else r - step

/-- The rate limiter (R57): `down` is A_DOWN, or A_STOP while the motion is STOPPED. -/
def rateLimit (r c : Int) (up down : Nat) : Int :=
  if r = c then r
  else if r = 0 ∨ (signInt r = signInt c ∧ r.natAbs < c.natAbs) then moveToward r c up
  else if c = 0 ∨ signInt r = signInt c then moveToward r c down
  else moveToward r 0 down

/-- The shrinking step: A_STOP while the motion is STOPPED, A_DOWN otherwise (R57, R58). -/
def downStep (p : ChannelParams) (permit : Permit) : Nat := if permit = .stopped then p.aStop else p.aDown

/-- The arm test (R49), made on a channel whose flag is false. -/
def armTest (ch : Channel) (permit : Permit) (cabLost : Bool) : Bool :=
  ch.armed || (!cabLost && !permit.halts && decide (ch.latched.natAbs ≤ ch.params.db))

/-- The input of the chain (R47). -/
def chainInput (ch : Channel) (armed : Bool) (permit : Permit) (cabLost : Bool) : Int :=
  if cabLost || !armed || permit.halts then 0 else ch.latched

/-- The cap target (R55). -/
def capTarget (permit : Permit) (pos neg : Nat) (y : Int) : Int := if permit.halts then 0 else limitToCaps pos neg y

/-- One sample of a channel (R42, stages 2 to 7), under the permit state and effective caps that stage 1 leaves, with the
cab link's condition and whether the brake sequencer is in RELEASED. -/
def sampleChannel (ch : Channel) (permit : Permit) (pos neg : Nat) (cabLost released : Bool) : Channel :=
  let p := ch.params
  let armed := armTest ch permit cabLost
  let d := deadband p.db (chainInput ch armed permit cabLost)
  let g0 := gainRounded p.gain d
  let pushed := pushHistory (limitMille g0) ch.history
  let y0 := filterRounded p.taps pushed
  let y := limitMille y0
  let c := capTarget permit pos neg y
  let limited := limitToCaps pos neg (rateLimit ch.r c p.aUp (downStep p permit))
  { ch with
    armed := armed, y := y, c := c,
    r := if permit = .tripped ∨ released = false then 0 else limited,
    history := if permit = .tripped then List.replicate 8 0 else pushed,
    demand := decide (c ≠ 0), peak := max ch.peak y.natAbs,
    sats := countSat (countSat ch.sats (saturates g0)) (saturates y0),
    sampleTimer := ⟨0, 1⟩ }

/-! ### Check figures (R64, R65) -/

/-- The standard sequence (R64). -/
def standardInputs : List Int := [0, 500, 1000, 1000, 0, -1000, -500, 0]

/-- The outputs of a run of inputs through deadband, gain and filter, from a working history (R64). -/
def chainOutputs (p : ChannelParams) : List Int → List Int → List Int
  | _, [] => []
  | history, x :: xs =>
    let pushed := pushHistory (limitMille (gainRounded p.gain (deadband p.db x))) history
    limitMille (filterRounded p.taps pushed) :: chainOutputs p pushed xs

/-- The check figure of a channel's parameters (R64). -/
def checkFigure (p : ChannelParams) : Nat :=
  (((chainOutputs p (List.replicate 8 0) standardInputs).sum) % 65536).toNat

/-- The parameters of the fixed arithmetic test (R65). -/
def fixedParams : ChannelParams :=
  { db := 100, gain := [⟨false, 0⟩, ⟨true, 3⟩],
    taps := [[⟨false, 1⟩], [⟨false, 2⟩], [⟨false, 2⟩], [], [], [], [], []], aUp := 1, aDown := 1, aStop := 1 }

/-- The correct result of the fixed arithmetic test (R65). -/
def fixedSum : Nat := 974

end Sys2Proof.Machine
end

