-- ==== Sys2Proof/Machine/Interlocks.lean ====
section
/-! DEFINITION. The interlock reasons that follow the walk selection, the brakes and the cams: WALK_ENGAGED (R89),
TUB_LIFTED and STEER_LIMIT (R101, R102) and BRAKES_NOT_SET (R122). -/

namespace Sys2Proof.Machine
open Sys2Proof

/-- WALK_ENGAGED on HOIST and DRAG is made to match its cause (R89). -/
def evalWalkEngaged (s : State) : State :=
  let want := walkEngagedCause s
  setStop .drag (.interlock .walkEngaged) want (setStop .hoist (.interlock .walkEngaged) want s)

/-- The entry of STEER_LIMIT (R102). -/
def steerEntry (s : State) : Reason := ⟨.interlock .steerLimit, .cap s.machine.steerCap .both⟩

/-- The tub-lifted and steering states are evaluated. As the tub comes down STEER_LIMIT is inserted first and TUB_LIFTED
removed after; as it is lifted the order is the reverse (R101, R102). -/
def evalTubSteer (s : State) : State :=
  if tubLiftedCause s then liftTub s
  else
    let wasTub := s.swing.tubLifted
    let wasSteering := s.swing.steering
    let steer := steeringCause s
    let s := s.setSwing { s.swing with tubLifted := false, steering := steer }
    let s :=
      if steer && !wasSteering then insertReason .swing (steerEntry s) s
      else if !steer && wasSteering then removeReason .swing (.interlock .steerLimit) s
      else s
    if wasTub then removeReason .swing (.interlock .tubLifted) s else s

/-- BRAKES_NOT_SET on WALK is made to match its cause (R122). -/
def evalBrakesNotSet (s : State) : State := setStop .walk (.interlock .brakesNotSet) (diggingBrakesNotSet s) s

end Sys2Proof.Machine
end

