-- ==== Sys2Proof/Machine/Walk.lean ====
section
/-! DEFINITION. The walk sequencer (chapter 7): the cams' phases, the shared reference, step counting, the stall watch,
selection, the preconditions and the walk warning, with the events of its timers. -/

namespace Sys2Proof.Machine
open Sys2Proof

/-! ### Preconditions (R123) -/

/-- The two gated preconditions. -/
inductive Precondition where
  | bucket | window
deriving DecidableEq, Repr

def preconditions : List Precondition := [.bucket, .window]

/-- The reason a precondition places while it is not met. -/
def preconditionReason : Precondition → Interlock
  | .bucket => .bucketNotGrounded
  | .window => .swingOutOfWindow

/-- A precondition's input as its supervisor last handed it on. -/
def preconditionMet (s : State) : Precondition → Bool
  | .bucket => s.hd.grounded
  | .window => s.swing.window

/-- A precondition's reason is made to match its input. -/
def matchPrecondition (p : Precondition) (s : State) : State :=
  setStop .walk (.interlock (preconditionReason p)) (!preconditionMet s p) s

/-- An input change, taken at once while the gate is OPEN and walk is selected, only recorded otherwise. -/
def preconditionChanged (p : Precondition) (s : State) : State :=
  if walkSelected s.walk && decide (s.walk.gate = .opened) then matchPrecondition p s else s

/-- The gate is evaluated; as it reopens while walk is selected both reasons are made to match their inputs. -/
def evalGate (s : State) : State :=
  let old := s.walk.gate
  let s := s.setWalk { s.walk with gate := gateOf s.walk }
  if old = .closed ∧ s.walk.gate = .opened ∧ walkSelected s.walk then takeEither matchPrecondition preconditions s
  else s

/-! ### Selection (R119, R120, R121) -/

/-- The walk channel's armed flag becomes false at each change of the selection state (R48). -/
def disarm (m : Motion) (s : State) : State := s.setChannel m { s.channels.get m with armed := false }

/-- A change of selection state, handed to the walk channel. -/
def setSelection (x : Selection) (s : State) : State := disarm .walk (s.setWalk { s.walk with selection := x })

/-- The change from DESELECTED to SELECTED: the neighbours' reasons, then the required preconditions inserted before
NOT_SELECTED is removed (R121), and the warning started (R124). -/
def selectWalk (s : State) : State :=
  let s := evalTubSteer (evalWalkEngaged (setSelection .selected s))
  let s := takeEither matchPrecondition (preconditions.filter (fun p => !preconditionMet s p)) s
  let s := removeReason .walk (.interlock .notSelected) s
  setWalkHorn true (s.setWalk { s.walk with warning := .sounding })

/-- A completed deselection: the neighbours' reasons, NOT_SELECTED and WARNING_INCOMPLETE inserted before the
preconditions are removed (R121, R123), and the warning cleared (R126). -/
def completeDeselection (s : State) : State :=
  let s := evalTubSteer (evalWalkEngaged (setSelection .deselected s))
  let s := insertReason .walk ⟨.interlock .notSelected, .stop⟩ s
  let s := insertReason .walk ⟨.interlock .warningIncomplete, .stop⟩ s
  let s := removeReason .walk (.interlock .bucketNotGrounded) s
  let s := removeReason .walk (.interlock .swingOutOfWindow) s
  let s := s.setWalk { s.walk with warning := .cleared, warnTimer := none, validTimer := none }
  let s := setWalkHorn false s
  s.setWalk { s.walk with grantHeld := false }

/-- Both shoes raised with the walk brake in SET: a pending deselection completes (R120). -/
def deselectionReady (s : State) : Bool := bothRaised s.walk && s.brakeSet .walk

/-- A pending deselection completes where its condition holds (R120). -/
def tryDeselection (s : State) : State :=
  if s.walk.selection = .deselectPending ∧ deselectionReady s then completeDeselection s else s

/-- A rising edge of the walk select bit (R120). -/
def selectRising (s : State) : State :=
  match s.walk.selection with
  | .deselected => selectWalk s
  | .deselectPending => setSelection .selected s
  | .selected => s

/-- A falling edge of the walk select bit (R120). -/
def selectFalling (s : State) : State :=
  match s.walk.selection with
  | .selected => if deselectionReady s then completeDeselection s else setSelection .deselectPending s
  | _ => s

/-- The walk select bit of a valid CAB_COMMAND, compared with the last one (R119). -/
def takeWalkSelect (bit : Bool) (s : State) : State :=
  let last := s.walk.lastSelect
  let s := s.setWalk { s.walk with lastSelect := some bit }
  match last, bit with
  | some false, true => selectRising s
  | some true, false => selectFalling s
  | _, _ => s

/-! ### Where the cams stand (R111, R112, R113) -/

/-- A difference of progresses wrapped into -1800..1799 (R112). -/
def wrapDiff (a b : Nat) : Int :=
  let d : Int := ((a : Int) - b) % 3600
  if 1800 ≤ d then d - 3600 else d

/-- The walk sequencer with both cam phases and D found again. A cam without a phase has no last progress; with the
machine phase UNKNOWN both pendings are NONE (R111, R112, R113). -/
def foundWalk (s : State) : Walk :=
  let w := s.walk
  let pl := camPhase w.table s.tracker.axes.camL
  let pr := camPhase w.table s.tracker.axes.camR
  let diff := match w.table with
    | none => none
    | some t =>
      if pl.isSome && pr.isSome then some (wrapDiff (progressOf t (camAngle s .camL)) (progressOf t (camAngle s .camR)))
      else none
  let cam (c : Cam) (p : Option Phase) : Cam :=
    { phase := p, progress := if p.isSome then c.progress else none,
      pending := if diff.isSome then c.pending else .none }
  { w with left := cam w.left pl, right := cam w.right pr, diff := diff }

/-- What the cams' new phases bring: a change of both cams raised reaches the swing supervisor and a pending deselection,
and the gate is evaluated (R111, R120, R123). -/
def phasesHandOn (before : Walk) (s : State) : State :=
  let s := if bothRaised before = bothRaised s.walk then s else tryDeselection (evalTubSteer s)
  evalGate s

/-- The cams found again at a WALK sample expiry (R111). -/
def takePhases (s : State) : State := phasesHandOn s.walk (s.setWalk (foundWalk s))

/-! ### Steps (R116, R117) -/

/-- The crossing a cam completes at an arrival (R116). -/
def crossing (t : PhaseTable) (last : Option Nat) (delta : Option Int) (new : Option Phase) : Pending :=
  match last, delta with
  | some p, some d =>
    if 0 < d ∧ phaseOfProgress t p = .raising ∧ new = some .raised then .forward
    else if d < 0 ∧ phaseOfProgress t p = .raised ∧ new = some .raising then .reverse
    else .none
  | _, _ => .none

/-- A cam's pending after a completion: an opposite one cancels it (R116). -/
def addPending : Pending → Pending → Pending
  | p, .none => p
  | .reverse, .forward => .none
  | _, .forward => .forward
  | .forward, .reverse => .none
  | _, .reverse => .reverse

/-- One cam's part of an arrival: its completion, then its last progress (R116). -/
def advanceCam (t : PhaseTable) (known : Bool) (delta : Option Int) (angle : Nat) (c : Cam) : Cam :=
  { c with
    pending := if known then addPending c.pending (crossing t c.progress delta c.phase) else c.pending,
    progress := if c.phase.isSome then some (progressOf t angle) else none }

/-- The step test: equal pendings count one step and clear (R117). -/
def stepTest (w : Walk) : Walk :=
  let cleared : Walk := { w with left := { w.left with pending := .none }, right := { w.right with pending := .none } }
  match w.left.pending, w.right.pending with
  | .forward, .forward => { cleared with steps := min (w.steps + 1) 32767 }
  | .reverse, .reverse => { cleared with steps := max (w.steps - 1) (-32768) }
  | _, _ => w

/-- Both cams' parts of an arrival, then the step test. -/
def advanceCams (deltaL deltaR : Option Int) (s : State) (w : Walk) : Walk :=
  match w.table with
  | none => w
  | some t =>
    let known := (machinePhase w).isSome
    stepTest { w with left := advanceCam t known deltaL (camAngle s .camL) w.left,
                        right := advanceCam t known deltaR (camAngle s .camR) w.right }

/-- The stall watch at an arrival taken while it is active: an advance of at least 10 restarts the timer (R118). -/
def watchAdvance (s : State) : State :=
  match s.walk.stallTimer with
  | none => s
  | some t =>
    if 10 ≤ (wrapDiff (laggingProgress s) s.walk.stallBase).natAbs then
      s.setWalk { s.walk with stallTimer := some ⟨0, s.machine.stallTime⟩, stallBase := laggingProgress s }
    else s.setWalk { s.walk with stallTimer := some t }

/-- The walk sequencer's part of a DRIVE_FEEDBACK, taken after the tracker's (R38, R111, R116, R118). -/
def takeCams (deltaL deltaR : Option Int) (s : State) : State :=
  let before := s.walk
  let s := s.setWalk (advanceCams deltaL deltaR s (foundWalk s))
  phasesHandOn before (watchAdvance (testStallWatch s))

/-! ### Sharing the reference (R114), synchronism (R115) -/

/-- The trim of the leading side (R114). -/
def trimOf (p : MachineParams) (r d : Int) : Nat := min r.natAbs ((d.natAbs - p.syncTol) * p.kTrim)

/-- The walk references formed from r and D at a sample (R114): left, then right. -/
def splitWalk (p : MachineParams) (r : Int) (diff : Option Int) : Int × Int :=
  match diff with
  | none => (r, r)
  | some d =>
    if r = 0 ∨ d.natAbs ≤ p.syncTol then (r, r)
    else
      let slowed := signInt r * ((r.natAbs - trimOf p r d : Nat) : Int)
      if (0 < r ∧ 0 < d) ∨ (r < 0 ∧ d < 0) then (slowed, r) else (r, slowed)

/-- WALK_SYNC at a WALK sample (R115). -/
def syncAfter (p : MachineParams) (diff : Option Int) (sync : Bool) : Bool :=
  match diff with
  | none => sync
  | some d => if p.syncFault < d.natAbs then true else if d.natAbs ≤ p.syncTol then false else sync

/-- The walk channel's r handed on at the end of a sample: the references are formed, WALK_SYNC is evaluated, and
WALK_STALL falls with an r of 0 (R114, R115, R118). -/
def handWalkReference (s : State) : State :=
  let r := s.channels.walk.r
  let refs := splitWalk s.machine r s.walk.diff
  s.setWalk { s.walk with
    walkL := refs.1, walkR := refs.2, sync := syncAfter s.machine s.walk.diff s.walk.sync,
    stall := if r = 0 then false else s.walk.stall }

/-! ### The timer events -/

/-- STALL_TIMER_EXPIRY (R118). -/
def stallTimerExpiry (s : State) : State :=
  if timerDue s.walk.stallTimer then afterEvent (s.setWalk { s.walk with stall := true, stallTimer := none }) else s

def execStallTimerExpiry (s : State) : Host.Outcome State Fault Refusal := .next (whenRunning stallTimerExpiry s)

/-- WARNING_TIMER_EXPIRY (R124): the warning is complete. -/
def warningTimerExpiry (s : State) : State :=
  if timerDue s.walk.warnTimer then
    let s := s.setWalk { s.walk with warning := .complete, warnTimer := none }
    afterEvent (setWalkHorn false (removeReason .walk (.interlock .warningIncomplete) s))
  else s

def execWarningTimerExpiry (s : State) : Host.Outcome State Fault Refusal := .next (whenRunning warningTimerExpiry s)

/-- VALIDITY_TIMER_EXPIRY (R125): the warning lapses. -/
def validityTimerExpiry (s : State) : State :=
  if timerDue s.walk.validTimer then
    let s := s.setWalk { s.walk with warning := .sounding, validTimer := none }
    afterEvent (setWalkHorn true (insertReason .walk ⟨.interlock .warningIncomplete, .stop⟩ s))
  else s

def execValidityTimerExpiry (s : State) : Host.Outcome State Fault Refusal := .next (whenRunning validityTimerExpiry s)

end Sys2Proof.Machine
end

