-- ==== Sys2Proof/Machine/HoistDrag.lean ====
section
/-! DEFINITION. The hoist-drag supervisor (chapter 5): what it makes of a DRIVE_FEEDBACK. -/

namespace Sys2Proof.Machine
open Sys2Proof

/-- TIGHT_LINE as its four parts give it (R83). -/
def tightLineTest (s : State) (hoistTorque dragTorque : Int) : Bool :=
  decide ((s.machine.tlTorque : Int) ≤ hoistTorque) && decide ((s.machine.tlTorque : Int) ≤ dragTorque) &&
    decide (0 < s.channels.hoist.r) && decide (0 < s.channels.drag.r)

/-- HOIST_OVERTRAVEL (R84). -/
def hoistOvertravelTest (s : State) : Bool :=
  s.tracker.axes.hoist.referenced && decide (s.tracker.axes.hoist.pos ≤ s.machine.hoistTopLimit) &&
    decide (0 < s.channels.hoist.r)

/-- DRAG_OVERTRAVEL (R85). -/
def dragOvertravelTest (s : State) : Bool :=
  s.tracker.axes.drag.referenced && decide (s.tracker.axes.drag.pos ≤ s.machine.dragInLimit) &&
    decide (0 < s.channels.drag.r)

/-- The bucket-grounded state (R87). -/
def groundedTest (s : State) (hoistTorque : Int) : Bool :=
  s.tracker.axes.hoist.referenced && decide (s.machine.groundPayout ≤ s.tracker.axes.hoist.pos) &&
    decide (hoistTorque.natAbs ≤ s.machine.slackTorque)

/-- The supervisor after an arrival with the given torques (R81). -/
def hoistDragAfter (hoistTorque dragTorque : Int) (s : State) : HoistDrag :=
  let h := limitMille hoistTorque
  let d := limitMille dragTorque
  { hoistTorque := h, dragTorque := d, tightLine := tightLineTest s h d, hoistOvertravel := hoistOvertravelTest s,
    dragOvertravel := dragOvertravelTest s, grounded := groundedTest s h, evaluated := true }

/-- The supervisor's part of a DRIVE_FEEDBACK: a change of the bucket-grounded state goes to the walk sequencer (R91);
the changes of its conditions are handed on as the part closes. -/
def takeTorques (hoistTorque dragTorque : Int) (s : State) : State :=
  let before := s.hd.grounded
  let s := s.setHd (hoistDragAfter hoistTorque dragTorque s)
  if s.hd.grounded = before then s else preconditionChanged .bucket s

end Sys2Proof.Machine
end

