-- ==== Sys2Proof/Machine/Swing.lean ====
section
/-! DEFINITION. The swing supervisor's plugging test and walk window (chapter 6). Its tub-lifted and steering states stand
in Interlocks.lean, its beacon request in Ops.lean. -/

namespace Sys2Proof.Machine
open Sys2Proof

/-- The direction of the plugging cap: that of the last swing target (R99). -/
def plugDir (s : State) : CapDir := if 0 < s.swing.target then .pos else .neg

/-- The plugging test is evaluated, and PLUGGING on SWING is inserted, updated or removed to match (R98, R99). -/
def evalPlugging (s : State) : State :=
  let s := s.setSwing { s.swing with plugging := pluggingTest s }
  if s.swing.plugging then insertReason .swing ⟨.interlock .plugging, .cap s.machine.plugCap (plugDir s)⟩ s
  else removeReason .swing (.interlock .plugging) s

/-- The swing speed of a DRIVE_FEEDBACK, limited, then the plugging test (R98). -/
def takeSwingSpeed (speed : Int) (s : State) : State := evalPlugging (s.setSwing { s.swing with speed := limitMille speed })

/-- The cap target of a SWING sample, then the plugging test (R63, R98). -/
def takeSwingTarget (s : State) : State := evalPlugging (s.setSwing { s.swing with target := s.channels.swing.c })

/-- The walk-window test at a SWING or WALK sample expiry; a change goes to the walk sequencer (R96, R97). -/
def takeWindow (s : State) : State :=
  let before := s.swing.window
  let s := s.setSwing { s.swing with window := walkWindowTest s }
  if s.swing.window = before then s else preconditionChanged .window s

end Sys2Proof.Machine
end

