-- ==== Sys2Proof/Machine/Modes.lean ====
section
/-! DEFINITION. The mode controller (chapter 10): the changes of mode, the CHECK procedure, the arithmetic test, the
resets, and machine time. -/

namespace Sys2Proof.Machine
open Sys2Proof

/-! ### Changes of mode (R161) -/

/-- Entry into READY: NOT_RUNNING leaves the four records, the channels disarm and the test timer starts. -/
def enterReady (s : State) : State :=
  let s := s.setCtl { s.ctl with mode := .ready, check := .passed, settleTimer := none, testTimer := startTimer 100 }
  takeEither (fun m t => disarm m (removeReason m .notRunning t)) allMotions s

/-- Departure from READY: the test timer stops and NOT_RUNNING enters the four records. -/
def leaveReady (mode : Mode) (s : State) : State :=
  let s := s.setCtl { s.ctl with mode := mode, testTimer := none }
  takeEither (fun m t => insertReason m ⟨.notRunning, .trip⟩ t) allMotions s

/-- The CHECK procedure ends outside READY with a result. -/
def endCheck (mode : Mode) (result : CheckResult) (s : State) : State :=
  s.setCtl { s.ctl with mode := mode, check := result, settleTimer := none }

/-! ### The settle step (R163) -/

/-- The settle step is in progress: the mode is CHECK, whose other steps take no time (R162, R164). -/
def settling (s : State) : Bool := decide (s.ctl.mode = .check)

/-- A brake has entered SET: the step passes if feedback has been seen and all four are in SET (R163). -/
def settleTest (s : State) : State :=
  if settling s && s.ctl.feedbackSeen && allBrakesSet s then enterReady s else s

/-- The settle step's part of a DRIVE_FEEDBACK, taken after the brake sequencers' (R163). -/
def settleArrival (s : State) : State :=
  if settling s then settleTest (s.setCtl { s.ctl with feedbackSeen := true }) else s

/-- DRIVE_LINK_LOST becoming true ends a settle step (R163). -/
def settleLinkLost (s : State) : State := if settling s then endCheck .config .driveLinkDown s else s

/-! ### The procedure (R162) -/

/-- A condition is watched: some defined alarm takes it as its source. -/
def watched (a : AlarmProc) (c : Fin 20) : Bool := !(slotsOf a (.internal c)).isEmpty

/-- Some alarm that takes the condition is of class ADVISORY or SLOW. -/
def weakClass (a : AlarmProc) (c : Fin 20) : Bool :=
  (slotsOf a (.internal c)).any (fun n => match a.defs[n] with
    | some d => !d.cls.isStopOrTrip
    | none => false)

/-- The conditions whose alarms must be of class STOP or TRIP: 0..9 and 18..19. -/
def strongConditions : List (Fin 20) := (List.finRange 20).filter (fun c => decide (c.val ≤ 9) || decide (18 ≤ c.val))

/-- The first shortfall, in the order of examination (R162, step 1). -/
def shortfall (s : State) : Option IncompleteItem :=
  if s.zones.hoist.isEmpty then some .zonesHoist
  else if s.zones.drag.isEmpty then some .zonesDrag
  else if s.zones.swing.isEmpty then some .zonesSwing
  else if s.walk.table.isNone then some .walkPhases
  else match (List.finRange 20).find? (fun c => !watched s.alarms c) with
    | some c => some (.unwatched c)
    | none => (strongConditions.find? (weakClass s.alarms)).map IncompleteItem.cls

/-- The sum of the next running of the fixed arithmetic test (R65, log entry 3). -/
def runningSum (s : State) : Nat := Config.testSum s.freeIx

/-- The part after a running of the fixed arithmetic test. -/
def afterRunning (s : State) : State := { s with freeIx := s.freeIx + 1 }

/-- The first channel whose figure differs from the expected one (R162, step 3). -/
def figureMismatch (s : State) : Option Motion :=
  allMotions.find? (fun m => decide (checkFigure (s.channels.get m).params ≠ s.ctl.figures.get m))

/-- The settle step begins (R163). -/
def beginSettle (s : State) : State :=
  let s := s.setCtl { s.ctl with settleTimer := startTimer 200, feedbackSeen := false }
  if s.links.drive.lost then endCheck .config .driveLinkDown s else s

/-- The part in CHECK with the expected figures of a GO stored (R162). -/
def checkStarted (figures : PerMotion Nat) (s : State) : State :=
  s.setCtl { s.ctl with mode := .check, check := .checking, figures := figures }

/-- A GO taken in CONFIG: the steps of the procedure up to the start of the settle step (R162). -/
def runCheck (figures : PerMotion Nat) (s : State) : State :=
  let s := checkStarted figures s
  match shortfall s with
  | some item => endCheck .config (.tableIncomplete item) s
  | none =>
    let sum := runningSum s
    let s := afterRunning s
    if sum = fixedSum then
      match figureMismatch s with
      | some m => endCheck .config (.checkMismatch m) s
      | none => beginSettle s
    else endCheck .lockout .arithmeticFault s

/-- SETTLE_TIMER_EXPIRY (R163). -/
def settleTimerExpiry (s : State) : State :=
  if timerDue s.ctl.settleTimer then
    endCheck .config (if s.ctl.feedbackSeen then .brakesNotConfirmed else .driveLinkDown) s
  else s

def execSettleTimerExpiry (s : State) : Host.Outcome State Fault Refusal := .next (whenRunning settleTimerExpiry s)

/-- TEST_TIMER_EXPIRY in READY (R165): the timer restarts, and a failed test locks the part out. -/
def testTimerExpiry (s : State) : State :=
  if timerDue s.ctl.testTimer then
    let sum := runningSum s
    let s := (afterRunning s).setCtl { s.ctl with testTimer := startTimer 100 }
    if sum = fixedSum then s
    else afterEvent (leaveReady .lockout (s.setCtl { s.ctl with check := .arithmeticFault }))
  else s

def execTestTimerExpiry (s : State) : Host.Outcome State Fault Refusal := .next (whenRunning testTimerExpiry s)

/-! ### Resets (R167, R168) -/

/-- The occurrence counts and the trip record, which LINE and RESTART keep (R129, R130, R168). -/
def keepRecords (old new : AlarmProc) : AlarmProc :=
  { new with runs := Vector.ofFn (fun n : Fin 64 => { new.runs[n] with count := (old.runs[n]).count }),
             trip := old.trip }

/-- A reset of the given kind: the reset state, with the queue and the free-value counter, the state of the reset line,
and, unless it is POWER_ON, the alarm counts and the trip record as they were (R168; log entries 1, 2, 4). -/
def resetBy (cause : ResetCause) (straps : Fin 16) (s : State) : State :=
  let f := State.fresh cause straps
  { f with pending := s.pending, freeIx := s.freeIx, held := s.held,
           alarms := if cause = .powerOn then f.alarms else keepRecords s.alarms f.alarms }

/-- POWER_ON (R167). -/
def execPowerOn (straps : Fin 16) (s : State) : Host.Outcome State Fault Refusal := .next (resetBy .powerOn straps s)

/-- LINE_RESET_ASSERT (R167): the assertion of the line is a LINE reset, after which the part is held. -/
def execLineResetAssert (straps : Fin 16) (s : State) : Host.Outcome State Fault Refusal :=
  .next (if s.held then s else { resetBy .line straps s with held := true })

/-- LINE_RESET_RELEASE (R167): the part begins to run from its reset state. -/
def execLineResetRelease (s : State) : Host.Outcome State Fault Refusal := .next { s with held := false }

/-! ### Machine time (R160) -/

def tickOption (t : Option Timer) : Option Timer := t.map Timer.tick

def Brake.tick (b : Brake) : Brake :=
  { b with releaseTimer := tickOption b.releaseTimer, setTimer := tickOption b.setTimer,
           holdTimer := tickOption b.holdTimer }

/-- 10 ms of machine time: it increases by 1 and wraps, and every running timer counts one unit (R67, R160). -/
def machineTimeTick (s : State) : State :=
  { s with
    channels := s.channels.map (fun c => { c with sampleTimer := c.sampleTimer.tick }),
    brakes := s.brakes.map Brake.tick,
    walk := { s.walk with stallTimer := tickOption s.walk.stallTimer, warnTimer := tickOption s.walk.warnTimer,
                          validTimer := tickOption s.walk.validTimer },
    alarms := { s.alarms with runs := s.alarms.runs.map (fun r => { r with delay := tickOption r.delay }) },
    ann := { s.ann with gens := s.ann.gens.map (fun g => { g with half := tickOption g.half }) },
    ctl := { s.ctl with settleTimer := tickOption s.ctl.settleTimer, testTimer := tickOption s.ctl.testTimer,
                        time := s.ctl.time + 1#32 },
    links := { s.links with cab := { s.links.cab with fresh := tickOption s.links.cab.fresh },
                            drive := { s.links.drive with fresh := tickOption s.links.drive.fresh },
                            refTimer := s.links.refTimer.tick } }

def execMachineTimeTick (s : State) : Host.Outcome State Fault Refusal := .next (whenRunning machineTimeTick s)

end Sys2Proof.Machine
end

