-- ==== Sys2Proof/Machine/Brakes.lean ====
section
/-! DEFINITION. The brake sequencers (chapter 4): the arrival of a released bit and a speed, the entry into SET, the
changes of demand, and the events of their timers. -/

namespace Sys2Proof.Machine
open Sys2Proof

/-! ### The entry into SET (R69, R74, R77) -/

/-- The blocks that take the entry of a sequencer into SET. -/
inductive SetNeighbour where
  | walkEngaged | tubAndSteering | brakesNotSet | beacon | deselection
deriving DecidableEq, Repr

/-- The neighbours of each sequencer: R89, R101, R104 and R120 for WALK; R122 for a digging brake, with R104 for SWING. -/
def setNeighbours : Motion → List SetNeighbour
  | .walk => [.walkEngaged, .tubAndSteering, .beacon, .deselection]
  | .swing => [.brakesNotSet, .beacon]
  | _ => [.brakesNotSet]

def tellNeighbour : SetNeighbour → State → State
  | .walkEngaged, s => evalWalkEngaged s
  | .tubAndSteering, s => evalTubSteer s
  | .brakesNotSet, s => evalBrakesNotSet s
  | .beacon, s => evalBeacon s
  | .deselection, s => tryDeselection s

/-- What follows an entry into SET: the neighbours take the change as it is made, in either order (R77, R103); then each
sequencer in SET tests its release condition, one after the other in either order (R69, R70); then the settle step
(R163). -/
def afterSet (m : Motion) (s : State) : State :=
  settleTest (takeEither testRelease allMotions (takeEither tellNeighbour (setNeighbours m) s))

/-- The sequencer enters SET: the set timer stops and both failure conditions fall (R74). -/
def enterSet (m : Motion) (s : State) : State :=
  afterSet m (s.setBrake m { s.brakes.get m with
    state := .set, setTimer := none, releaseFail := false, setFail := false })

/-! ### Arrivals (R67, R71 to R74) -/

/-- The sequencer with the released bit and the limited speed of an arrival recorded (R67). -/
def Brake.record (b : Brake) (released : Bool) (speed : Int) : Brake :=
  { b with lastReleased := released, lastSpeed := limitMille speed }

/-- The sequencer's part of a DRIVE_FEEDBACK. -/
def brakeArrival (m : Motion) (released : Bool) (speed : Int) (s : State) : State :=
  let s := s.setBrake m ((s.brakes.get m).record released speed)
  match (s.brakes.get m).state, released with
  | .releasing, true =>
    evalHoldToSet m (s.setBrake m { s.brakes.get m with state := .released, releaseTimer := none, holdTimer := none })
  | .released, _ => evalHoldToSet m s
  | .setting, false => enterSet m s
  | _, _ => s

/-! ### The hand-on of a sample (R56, R63, R69, R71, R72) -/

/-- The sequencer takes a sample's r and its change of demand: the release condition is tested in SET, a fallen demand
ends a release, and the hold-to-set condition is evaluated in RELEASED. -/
def takeDemand (m : Motion) (changed : Bool) (s : State) : State :=
  match (s.brakes.get m).state with
  | .set => if changed then testRelease m s else s
  | .releasing => if changed && !(s.channels.get m).demand then enterSetting m s else s
  | .released => evalHoldToSet m s
  | .setting => s

/-! ### The timer events -/

/-- A timer of the sequencer expires in the state in which it runs (R67). -/
def expiresIn (b : Brake) (st : BrakeState) (t : Option Timer) : Bool := decide (b.state = st) && timerDue t

/-- RELEASE_TIMER_EXPIRY (R71): the release has failed. -/
def releaseTimerExpiry (m : Motion) (s : State) : State :=
  if expiresIn (s.brakes.get m) .releasing (s.brakes.get m).releaseTimer then
    let s := s.setBrake m { s.brakes.get m with releaseFail := true }
    afterEvent (enterSetting m s)
  else s

def execReleaseTimerExpiry (m : Motion) (s : State) : Host.Outcome State Fault Refusal :=
  .next (whenRunning (releaseTimerExpiry m) s)

/-- HOLD_TIMER_EXPIRY (R72): the brake is set on a motion that has rested. -/
def holdTimerExpiry (m : Motion) (s : State) : State :=
  if expiresIn (s.brakes.get m) .released (s.brakes.get m).holdTimer then afterEvent (leaveReleased m s) else s

def execHoldTimerExpiry (m : Motion) (s : State) : Host.Outcome State Fault Refusal :=
  .next (whenRunning (holdTimerExpiry m) s)

/-- SET_TIMER_EXPIRY (R74): the set has not been confirmed in time. -/
def setTimerExpiry (m : Motion) (s : State) : State :=
  if expiresIn (s.brakes.get m) .setting (s.brakes.get m).setTimer then
    afterEvent (s.setBrake m { s.brakes.get m with setFail := true, setTimer := none })
  else s

def execSetTimerExpiry (m : Motion) (s : State) : Host.Outcome State Fault Refusal :=
  .next (whenRunning (setTimerExpiry m) s)

end Sys2Proof.Machine
end

