-- ==== Sys2Proof/Machine/Annunciator.lean ====
section
/-! DEFINITION. The annunciator's own events: the end of a cadence half (R153) and the restart of generators at a pattern
write (R154). -/

namespace Sys2Proof.Machine
open Sys2Proof

/-- The pattern a generator uses: the horn's is that of the requester which holds the grant (R153). -/
def generatorPattern (s : State) : GenId → Option Pattern
  | .fastLamp => some s.ann.patterns.fast
  | .slowLamp => some s.ann.patterns.slow
  | .beacon => some s.ann.patterns.beacon
  | .horn => s.ann.grant.map (fun q => s.ann.patterns.get q.pattern)

/-- The generator in its other half, with the half timer started from 0 (R153). -/
def Gen.flip (g : Gen) (p : Pattern) : Gen :=
  { g with onHalf := !g.onHalf, half := startTimer (if g.onHalf then p.offTime else p.onTime) }

def State.setGen (s : State) (g : GenId) (x : Gen) : State := s.setAnn { s.ann with gens := s.ann.gens.set g x }

/-- CADENCE_HALF_EXPIRY (R153). -/
def cadenceHalfExpiry (g : GenId) (s : State) : State :=
  match generatorPattern s g with
  | none => s
  | some p => if timerDue (s.ann.gens.get g).half then s.setGen g ((s.ann.gens.get g).flip p) else s

def execCadenceHalfExpiry (g : GenId) (s : State) : Host.Outcome State Fault Refusal :=
  .next (whenRunning (cadenceHalfExpiry g) s)

/-- The table of patterns with one replaced. -/
def Patterns.put (ps : Patterns) (n : PatternId) (p : Pattern) : Patterns :=
  match n with
  | .alarm => { ps with alarm := p }
  | .walk => { ps with walk := p }
  | .operator => { ps with operator := p }
  | .beacon => { ps with beacon := p }
  | .fast => { ps with fast := p }
  | .slow => { ps with slow := p }

/-- The horn generator restarts if the written pattern is the one the grant uses. -/
def restartHorn (n : PatternId) (p : Pattern) (s : State) : State :=
  if s.ann.grant.map Requester.pattern = some n then s.setGen .horn (genStart p) else s

/-- The generators that use a pattern restart at its write (R154). -/
def restartGenerators (n : PatternId) (p : Pattern) (s : State) : State :=
  match n with
  | .fast => s.setGen .fastLamp (genStart p)
  | .slow => s.setGen .slowLamp (genStart p)
  | .beacon => if s.ann.gens.beacon.running then s.setGen .beacon (genStart p) else s
  | .alarm => restartHorn .alarm p s
  | .walk => restartHorn .walk p s
  | .operator => restartHorn .operator p s

/-- A pattern replaced, and the generators that use it restarted (R152, R154). -/
def writePattern (n : PatternId) (p : Pattern) (s : State) : State :=
  restartGenerators n p (s.setAnn { s.ann with patterns := s.ann.patterns.put n p })

end Sys2Proof.Machine
end

