-- ==== Sys2Proof/Machine/Sample.lean ====
section
/-! DEFINITION. CHANNEL_SAMPLE (R42): the caps, the chain of Shaper.lean, and the hand-on of the results (R63). -/

namespace Sys2Proof.Machine
open Sys2Proof

/-- Stage 1: the zone caps are computed, POS and then NEG, and replace the record's (R15). -/
def takeZoneCaps (m : Motion) (s : State) : State :=
  s.setRecord m { s.records.get m with zonePos := zoneCap s m .pos, zoneNeg := zoneCap s m .neg }

/-- Stages 2 to 7, on the permit state and the effective caps that stage 1 leaves (R42). -/
def sampledChannel (m : Motion) (s : State) : Channel :=
  sampleChannel (s.channels.get m) (s.permit m) (effectiveCap (s.records.get m) .pos) (effectiveCap (s.records.get m) .neg)
    s.links.cab.lost (decide ((s.brakes.get m).state = .released))

/-- Stage 8: the walk split, the brake sequencer and the swing target take the results (R63). -/
def handOn (m : Motion) (demandBefore : Bool) (s : State) : State :=
  let s := if m = .walk then handWalkReference s else s
  let s := takeDemand m (decide ((s.channels.get m).demand ≠ demandBefore)) s
  if m = .swing then takeSwingTarget s else s

/-- One sample of a channel. -/
def takeSample (m : Motion) (s : State) : State :=
  let s := takeZoneCaps m s
  handOn m (s.channels.get m).demand (s.setChannel m (sampledChannel m s))

/-- The events of a sample expiry: the sample itself, and the walk-window test at a SWING or WALK expiry (R96). -/
inductive SamplePart where
  | window | sample
deriving DecidableEq, Repr

def sampleParts : Motion → List SamplePart
  | .swing => [.window, .sample]
  | .walk => [.window, .sample]
  | _ => [.sample]

def takeSamplePart (m : Motion) : SamplePart → State → State
  | .window, s => takeWindow s
  | .sample, s => takeSample m s

/-- CHANNEL_SAMPLE: the cams are found first at a WALK expiry (R111, R114); the other events are taken in either order,
each wholly before or wholly after the sample (R42). -/
def channelSample (m : Motion) (s : State) : State :=
  if (s.channels.get m).sampleTimer.due then
    let s := if m = .walk then takePhases s else s
    afterEvent (takeEither (takeSamplePart m) (sampleParts m) s)
  else s

def execChannelSample (m : Motion) (s : State) : Host.Outcome State Fault Refusal := .next (whenRunning (channelSample m) s)

end Sys2Proof.Machine
end

