-- ==== Sys2Proof/Machine/Framing.lean ====
section
/-! DEFINITION. The framing of the links (R170): bytes and bits, zero insertion and removal, the frame check sequence, the
receiver that splits a line at its flags and aborts, and the checks a port makes on a received frame (R171, R172). -/

namespace Sys2Proof.Machine
open Sys2Proof

/-! ### Bits and bytes -/

/-- The bits of a byte, least significant first. -/
def bitsOfByte (b : Byte) : List Bool :=
  [b.getLsbD 0, b.getLsbD 1, b.getLsbD 2, b.getLsbD 3, b.getLsbD 4, b.getLsbD 5, b.getLsbD 6, b.getLsbD 7]

/-- The bits of a run of bytes in the order sent. -/
def bitsOf (bytes : List Byte) : List Bool := (bytes.map bitsOfByte).flatten

/-- The byte of eight bits, least significant first. -/
def byteOfBits (bits : List Bool) : Byte := byteOf (bits.foldr (fun b n => b.toNat + 2 * n) 0)

/-- The whole bytes of a run of bits; bits short of a byte at the end are dropped. -/
def bytesOf : List Bool → List Byte
  | b0 :: b1 :: b2 :: b3 :: b4 :: b5 :: b6 :: b7 :: rest => byteOfBits [b0, b1, b2, b3, b4, b5, b6, b7] :: bytesOf rest
  | _ => []

/-! ### Zero insertion and removal -/

/-- A zero follows every run of five ones; `ones` counts the ones of the present run. -/
def insertZeros : Nat → List Bool → List Bool
  | _, [] => []
  | _, false :: rest => false :: insertZeros 0 rest
  | ones, true :: rest => if ones = 4 then true :: false :: insertZeros 0 rest else true :: insertZeros (ones + 1) rest

/-- A zero that follows five ones is removed. -/
def removeZeros : Nat → List Bool → List Bool
  | _, [] => []
  | ones, false :: rest => if ones = 5 then removeZeros 0 rest else false :: removeZeros 0 rest
  | ones, true :: rest => true :: removeZeros (ones + 1) rest

/-! ### The frame check sequence -/

/-- One bit divided by x^16 + x^12 + x^5 + 1, the register held with its first bit lowest, as the bits are sent. -/
def fcsBit (reg : BitVec 16) (bit : Bool) : BitVec 16 :=
  if Bool.xor (reg.getLsbD 0) bit then (reg >>> 1) ^^^ 0x8408#16 else reg >>> 1

/-- The check value of a run of bytes: preset to ones, and the complement of the remainder (R170). -/
def fcsOf (bytes : List Byte) : BitVec 16 := ~~~((bitsOf bytes).foldl fcsBit 0xFFFF#16)

/-! ### Frames on the line -/

/-- The bytes of a frame between its flags: address, kind, body, and the check value low byte first. -/
def frameBytes (f : Frame) : List Byte :=
  let content := f.address :: f.kind :: f.body
  content ++ le16 (fcsOf content).toNat

/-- The flag 0x7E. -/
def flagBits : List Bool := bitsOfByte 0x7E#8

/-- A frame as the part sends it: the opening flag, the stuffed bits and the closing flag. -/
def lineBits (f : Frame) : List Bool := flagBits ++ insertZeros 0 (bitsOf (frameBytes f)) ++ flagBits

/-! ### The receiver (R170) -/

/-- Fewer than six ones in a row, counted from `ones`: six make a flag or an abort. -/
def noSixOnes : Nat → List Bool → Bool
  | _, [] => true
  | _, false :: rest => noSixOnes 0 rest
  | ones, true :: rest => decide (ones < 5) && noSixOnes (ones + 1) rest

/-- A frame as the receiver delivers it: the bits between its opening flag and what ended it, before the removal of stuffed
zeros; and whether an abort ended it. A frame that is discarded as its 125th byte arrives (R171) is delivered unended, with
the bits that have arrived. -/
structure RxFrame where
  bits : List Bool
  aborted : Bool
deriving DecidableEq, Repr

/-- A port's receiver: the ones received in a row, and the bits received since the last flag, or none while it waits for a
flag. -/
structure Receiver where
  ones : Nat
  since : Option (List Bool)
deriving DecidableEq, Repr

/-- The receiver that waits for a flag: on a fresh line, and after an abort. -/
def Receiver.waiting : Receiver := ⟨0, none⟩

/-- The frame that stands before the last `count` bits, which are those of the flag or the abort. -/
def endedFrame (count : Nat) (aborted : Bool) (bits : List Bool) : RxFrame :=
  ⟨bits.take (bits.length - count), aborted⟩

/-- The 125th byte of a frame has arrived (R171). -/
def holdsTooMuch (bits : List Bool) : Bool := decide (125 ≤ (bytesOf (removeZeros 0 bits)).length)

/-- The frame that an abort ends, with `bits` received before the seventh one. Its six ones belong to no frame (log entry
14), but where the 125th byte arrived before the abort the frame is too long already, and the abort is ignored. -/
def abortedFrame (bits : List Bool) : RxFrame := if holdsTooMuch bits then ⟨bits, true⟩ else endedFrame 6 true bits

/-- One bit received. A zero after six ones completes a flag, which ends a frame in progress and opens the next; the
seventh one in a row is an abort, which ends a frame in progress, and the receiver waits for the next flag (log entry 14
on the ones of an abort). -/
def receiveBit (r : Receiver) (bit : Bool) : Receiver × Option RxFrame :=
  if bit then
    if r.ones = 6 then (⟨7, none⟩, r.since.map abortedFrame)
    else (⟨r.ones + 1, r.since.map (fun bits => bits ++ [true])⟩, none)
  else if r.ones = 6 then (⟨0, some []⟩, r.since.map (endedFrame 7 false))
  else (⟨0, r.since.map (fun bits => bits ++ [false])⟩, none)

/-- The frames that end as a run of bits is received, in the order of their ends. -/
def receive : Receiver → List Bool → List RxFrame
  | _, [] => []
  | r, bit :: rest => (receiveBit r bit).2.toList ++ receive (receiveBit r bit).1 rest

/-- The receiver that a run of bits leaves. -/
def listen (r : Receiver) (line : List Bool) : Receiver := line.foldl (fun r bit => (receiveBit r bit).1) r

/-- The frame in progress, where it is too long already: it is discarded without waiting for its end (R171). -/
def Receiver.discarded (r : Receiver) : List RxFrame :=
  match r.since with
  | some bits => if holdsTooMuch bits then [⟨bits, false⟩] else []
  | none => []

/-- The frames of a line at which a port begins to listen: those that end on it, and one whose 125th byte arrives on it
without an end. What is left of the latter, up to the next flag, is ignored: a later line finds the port waiting. -/
def framesOn (line : List Bool) : List RxFrame :=
  receive Receiver.waiting line ++ (listen Receiver.waiting line).discarded

/-- The response being sent on the monitor link as a frame: the result code, then the data (R177, R182). -/
def ResultCode.code : ResultCode → Nat
  | .accepted => 0
  | .noChange => 1
  | .wrongMode => 2
  | .outOfRange => 3
  | .badFormat => 4
  | .notPermitted => 5
  | .busy => 6
  | .limit => 7
  | .unknownKind => 8

/-- The station address (R172). -/
def stationAddress (s : State) : Byte := byteOf (0x10 + s.links.station.val)

def responseFrame (s : State) (r : Response) : Frame :=
  { address := stationAddress s, kind := r.kind, body := byteOf r.code.code :: r.data }

/-! ### The checks on a received frame (R171) -/

/-- The link counters a check increases. -/
inductive Check where
  | runt | long | aborted | badFcs | overrun | format
deriving DecidableEq, Repr

/-- What the link checks make of a received frame: fill between flags, a failed check, or a frame. -/
inductive LinkResult where
  | fill
  | failed (c : Check)
  | frame (f : Frame)
deriving DecidableEq, Repr

/-- The last two bytes hold the check value of the others. -/
def fcsMatches (bytes : List Byte) : Bool :=
  let content := bytes.take (bytes.length - 2)
  decide (bytes.drop (bytes.length - 2) = le16 (fcsOf content).toNat)

/-- A frame of at least four bytes, split. -/
def splitFrame (bytes : List Byte) : Frame :=
  { address := bytes.getD 0 0#8, kind := bytes.getD 1 0#8, body := (bytes.take (bytes.length - 2)).drop 2 }

/-- The checks runt, long, abort and check sequence, in the order of R171 (log entry 14 on bits short of a byte). -/
def linkCheck (rx : RxFrame) : LinkResult :=
  let bits := removeZeros 0 rx.bits
  let bytes := bytesOf bits
  if !rx.aborted && bytes.isEmpty then .fill
  else if rx.aborted && rx.bits.isEmpty then .fill
  else if !rx.aborted && decide (bytes.length ≤ 3) then .failed .runt
  else if 125 ≤ bytes.length then .failed .long
  else if rx.aborted then .failed .aborted
  else if decide (bits.length % 8 ≠ 0) || !fcsMatches bytes then .failed .badFcs
  else .frame (splitFrame bytes)

/-- A counter stands at 255 once it has reached 255 (R171). -/
def countUp (n : Nat) : Nat := min (n + 1) 255

def PortCounters.count (k : PortCounters) : Check → PortCounters
  | .runt => { k with runt := countUp k.runt }
  | .long => { k with long := countUp k.long }
  | .aborted => { k with aborted := countUp k.aborted }
  | .badFcs => { k with badFcs := countUp k.badFcs }
  | .format => { k with format := countUp k.format }
  | .overrun => k

/-- A failed check counted at a port; OVERRUN is the monitor port's alone (R171). -/
def countCheck (p : Port) (c : Check) (s : State) : State :=
  match p with
  | .cab => s.setLinks { s.links with cab := { s.links.cab with counters := s.links.cab.counters.count c } }
  | .drive => s.setLinks { s.links with drive := { s.links.drive with counters := s.links.drive.counters.count c } }
  | .monitor =>
    let p := s.links.monitor
    s.setLinks { s.links with monitor := { p with
      counters := p.counters.count c, overrun := if c = .overrun then countUp p.overrun else p.overrun } }

/-- The kinds of the two cyclic frames received, and the addresses of their ports (R172, R180). -/
def cabCommandKind : Byte := 0x01#8
def driveFeedbackKind : Byte := 0x02#8
def cabAddress : Byte := 0x01#8
def driveAddress : Byte := 0x02#8

/-- The destination of a monitor frame, or none for a frame addressed elsewhere (R172). -/
def destOf (s : State) (address : Byte) : Option Dest :=
  if address = stationAddress s then some .station else if address = 0xFF#8 then some .broadcast else none

/-- The failing check of a frame that passed the link checks, at its port: FORMAT on the cab and drive ports, OVERRUN on
the monitor port; none where the frame is taken or ignored (R171, R172). -/
def portCheck (p : Port) (f : Frame) (s : State) : Option Check :=
  match p with
  | .cab =>
    if f.address = cabAddress ∧ ¬(f.kind = cabCommandKind ∧ f.body.length = cabCommandLength) then some .format else none
  | .drive =>
    if f.address = driveAddress ∧ ¬(f.kind = driveFeedbackKind ∧ f.body.length = driveFeedbackLength) then some .format
    else none
  | .monitor => if (destOf s f.address).isSome ∧ 2 ≤ s.links.monitor.buffer.length then some .overrun else none

/-- The check a received frame fails at a port, if it fails one. -/
def failedCheck (p : Port) (rx : RxFrame) (s : State) : Option Check :=
  match linkCheck rx with
  | .fill => none
  | .failed c => some c
  | .frame f => portCheck p f s

/-- A frame that fails a check is discarded and counted once, under the first check it fails (R171). -/
def countFailure (p : Port) (rx : RxFrame) (s : State) : State :=
  match failedCheck p rx s with
  | some c => countCheck p c s
  | none => s

/-- FRAME_CHECK_FAILED (R171): each frame of the line is checked (R170). -/
def frameCheckFailed (p : Port) (line : List Bool) (s : State) : State :=
  (framesOn line).foldl (fun t rx => countFailure p rx t) s

def execFrameCheckFailed (p : Port) (line : List Bool) (s : State) : Host.Outcome State Fault Refusal :=
  .next (whenRunning (frameCheckFailed p line) s)

end Sys2Proof.Machine
end

