-- ==== Sys2Proof/Machine/Status.lean ====
section
/-! DEFINITION. What the masters see (R24, R40, R66, R78, R92, R107, R128, R147, R159, R169): the codes of R180, the bodies
of CAB_STATUS and DRIVE_REFERENCE (R181), and the data of the monitor's reads (R182). -/

namespace Sys2Proof.Machine
open Sys2Proof

/-! ### Codes (R180) -/

def Mode.code : Mode → Nat
  | .config => 0
  | .check => 1
  | .ready => 2
  | .lockout => 3

def Permit.code : Permit → Nat
  | .free => 0
  | .capped => 1
  | .stopped => 2
  | .tripped => 3

def BrakeState.code : BrakeState → Nat
  | .set => 0
  | .releasing => 1
  | .released => 2
  | .setting => 3

def Interlock.code : Interlock → Nat
  | .walkEngaged => 0
  | .tubLifted => 1
  | .steerLimit => 2
  | .plugging => 3
  | .notSelected => 4
  | .bucketNotGrounded => 5
  | .swingOutOfWindow => 6
  | .brakesNotSet => 7
  | .warningIncomplete => 8

/-- The kind and id bytes of a reason source. -/
def Source.bytes : Source → List Byte
  | .alarm n => [1#8, byteOf n.val]
  | .hold .cab => [2#8, 0#8]
  | .hold .drive => [2#8, 1#8]
  | .hold .monitor => [2#8, 2#8]
  | .interlock i => [3#8, byteOf i.code]
  | .notRunning => [4#8, 0#8]

/-- A primary cause: kind none is 0, and its absent id 0xFF. -/
def causeBytes : Option Source → List Byte
  | some src => src.bytes
  | none => [0#8, 0xFF#8]

def CapDir.code : CapDir → Nat
  | .pos => 0
  | .neg => 1
  | .both => 2

/-- The effect, direction and cap of an entry; absent fields are all ones. -/
def Effect.bytes : Effect → List Byte
  | .cap v d => [0#8, byteOf d.code] ++ le16 v
  | .stop => [1#8, 0xFF#8] ++ le16 0xFFFF
  | .trip => [2#8, 0xFF#8] ++ le16 0xFFFF

def Phase.code : Phase → Nat
  | .raised => 0
  | .lowering => 1
  | .lifting => 2
  | .stepping => 3
  | .settingDown => 4
  | .raising => 5

/-- A phase, or UNKNOWN or none. -/
def phaseCode : Option Phase → Nat
  | some p => p.code
  | none => 6

def Selection.code : Selection → Nat
  | .deselected => 0
  | .selected => 1
  | .deselectPending => 2

def grantCode : Option Requester → Nat
  | none => 0
  | some .alarm => 1
  | some .walk => 2
  | some .operator => 3

def AlarmState.code : AlarmState → Nat
  | .normal => 0
  | .raised => 1
  | .held => 2
  | .returned => 3
  | .latched => 4

def Warning.code : Warning → Nat
  | .cleared => 0
  | .sounding => 1
  | .complete => 2

def Pending.code : Pending → Nat
  | .none => 0
  | .forward => 1
  | .reverse => 2

def Gate.code : Gate → Nat
  | .opened => 0
  | .closed => 1

def LampState.code : LampState → Nat
  | .off => 0
  | .steady => 1
  | .slow => 2
  | .fast => 3

def ResetCause.code : ResetCause → Nat
  | .powerOn => 0
  | .line => 1
  | .restart => 2

def Motion.code : Motion → Nat
  | .hoist => 0
  | .drag => 1
  | .swing => 2
  | .walk => 3

/-- The item and condition bytes of TABLE_INCOMPLETE. -/
def IncompleteItem.bytes : IncompleteItem → List Byte
  | .zonesHoist => [0#8, 0xFF#8]
  | .zonesDrag => [1#8, 0xFF#8]
  | .zonesSwing => [2#8, 0xFF#8]
  | .walkPhases => [3#8, 0xFF#8]
  | .unwatched c => [4#8, byteOf c.val]
  | .cls c => [5#8, byteOf c.val]

/-- The three bytes of a check result. -/
def CheckResult.bytes : CheckResult → List Byte
  | .none => [0#8, 0xFF#8, 0xFF#8]
  | .checking => [1#8, 0xFF#8, 0xFF#8]
  | .passed => [2#8, 0xFF#8, 0xFF#8]
  | .aborted => [3#8, 0xFF#8, 0xFF#8]
  | .tableIncomplete item => 4#8 :: item.bytes
  | .arithmeticFault => [5#8, 0xFF#8, 0xFF#8]
  | .checkMismatch m => [6#8, byteOf (Motion.code m), 0xFF#8]
  | .brakesNotConfirmed => [7#8, 0xFF#8, 0xFF#8]
  | .driveLinkDown => [8#8, 0xFF#8, 0xFF#8]

/-- A timer's elapsed time, or 0xFFFF where it is stopped. -/
def timerBytes : Option Timer → List Byte
  | some t => le16 t.elapsed
  | none => le16 0xFFFF

/-- An alarm number, or 0xFF for none. -/
def alarmByte : Option (Fin 64) → Byte
  | some n => byteOf n.val
  | none => 0xFF#8

/-- A two-byte number, or all ones where it is absent. -/
def optional16 : Option Nat → List Byte
  | some n => le16 n
  | none => le16 0xFFFF

/-- A time, or all ones where it is absent. -/
def optional32 : Option (BitVec 32) → List Byte
  | some t => le32 t.toNat
  | none => le32 0xFFFFFFFF

/-- A true-or-false item, or 0xFF where it is absent. -/
def optionalBit : Option Bool → Byte
  | some b => bit8 b
  | none => 0xFF#8

/-- The five axes' bytes in axis order. -/
def eachAxisBytes (f : Axis → List Byte) : List Byte := (allAxes.map f).flatten

/-- The four motions' bytes in motion order. -/
def eachMotionBytes (f : Motion → List Byte) : List Byte := (allMotions.map f).flatten

/-! ### The cyclic frames sent (R181) -/

/-- The block of one motion in a CAB_STATUS, 10 bytes. -/
def motionBlock (s : State) (m : Motion) : List Byte :=
  let r := s.records.get m
  [byteOf (s.permit m).code] ++ causeBytes (primaryCause r.reasons) ++ le16 (effectiveCap r .pos) ++
    le16 (effectiveCap r .neg) ++ si16 (s.channels.get m).r ++ [byteOf (s.brakes.get m).state.code]

/-- The block of one axis in a CAB_STATUS, 3 bytes. -/
def axisBlock (s : State) (a : Axis) : List Byte :=
  le16 (s.tracker.axes.get a).pos ++ [bit8 (s.tracker.axes.get a).referenced]

/-- A CAB_STATUS body, 64 bytes (R174, R181). -/
def cabStatusBody (s : State) : List Byte :=
  [byteOf s.ctl.mode.code] ++ eachMotionBytes (motionBlock s) ++ eachAxisBytes (axisBlock s) ++
    [byteOf s.walk.selection.code, byteOf (phaseCode (machinePhase s.walk))] ++ si16 s.walk.steps ++
    [byteOf s.alarms.active.length, byteOf (unacknowledgedCount s.alarms), alarmByte (newestUnacknowledged s.alarms),
      byteOf (grantCode s.ann.grant)]

def cabStatusFrame (s : State) : Frame := { address := cabAddress, kind := 0x81#8, body := cabStatusBody s }

/-- The four release request bits. -/
def releaseRequests (s : State) : PerMotion Bool :=
  ⟨releaseRequest s .hoist, releaseRequest s .drag, releaseRequest s .swing, releaseRequest s .walk⟩

/-- A DRIVE_REFERENCE body, 12 bytes (R176, R181). -/
def driveReferenceBody (s : State) : List Byte :=
  si16 s.channels.hoist.r ++ si16 s.channels.drag.r ++ si16 s.channels.swing.r ++ si16 s.walk.walkL ++
    si16 s.walk.walkR ++ [motionSetByte (releaseRequests s), byteOf s.ctl.mode.code]

def driveReferenceFrame (s : State) : Frame := { address := driveAddress, kind := 0x82#8, body := driveReferenceBody s }

/-! ### STATUS_READ (R182) -/

/-- One entry of a reason set, 6 bytes. -/
def reasonBytes (e : Reason) : List Byte := e.source.bytes ++ e.effect.bytes

/-- Part 0: the record of one motion, with up to 17 entries from an index (R24). -/
def recordPart (s : State) (m : Motion) (index : Nat) : List Byte :=
  let r := s.records.get m
  [byteOf r.reasons.length, byteOf (permitOf r.reasons).code] ++ causeBytes (primaryCause r.reasons) ++
    le16 r.zonePos ++ le16 r.zoneNeg ++ le16 (effectiveCap r .pos) ++ le16 (effectiveCap r .neg) ++
    (((r.reasons.drop index).take 17).map reasonBytes).flatten

/-- One axis of part 1 (R40): a rope accumulator takes four bytes, and OVER_RANGE is a rope axis's. -/
def trackBytes (s : State) (a : Axis) : List Byte :=
  let t := s.tracker.axes.get a
  le16 t.pos ++ [bit8 t.referenced] ++ le16 t.lastRaw ++ (if Axis.isRope a then si32 t.acc else si16 t.acc) ++
    le16 t.base ++ [byteOf t.jumps, bit8 t.jumped] ++ (if Axis.isRope a then [bit8 t.overRange] else [])

/-- Part 1: the tracker. -/
def trackerPart (s : State) : List Byte := eachAxisBytes (trackBytes s) ++ [bit8 s.tracker.countsBased]

/-- One channel of part 2 (R66). -/
def channelBytes (c : Channel) : List Byte :=
  si16 c.latched ++ [bit8 c.armed] ++ si16 c.y ++ si16 c.c ++ si16 c.r ++ [bit8 c.demand] ++ le16 c.peak ++ le16 c.sats

/-- Part 2: the channels. -/
def channelsPart (s : State) : List Byte := eachMotionBytes (fun m => channelBytes (s.channels.get m))

/-- The running timer of a sequencer: its elapsed time, then its name (R78). -/
def brakeTimerBytes (b : Brake) : List Byte :=
  match b.releaseTimer, b.setTimer, b.holdTimer with
  | some t, _, _ => le16 t.elapsed ++ [0#8]
  | none, some t, _ => le16 t.elapsed ++ [1#8]
  | none, none, some t => le16 t.elapsed ++ [2#8]
  | none, none, none => le16 0xFFFF ++ [0xFF#8]

/-- One sequencer of part 3 (R78). -/
def brakeBytes (b : Brake) : List Byte :=
  [byteOf b.state.code] ++ brakeTimerBytes b ++ [bit8 b.lastReleased] ++ si16 b.lastSpeed ++
    [bit8 b.releaseFail, bit8 b.setFail]

/-- Part 3: the brake sequencers. -/
def brakesPart (s : State) : List Byte := eachMotionBytes (fun m => brakeBytes (s.brakes.get m))

/-- Part 4: the two supervisors (R92, R107). -/
def supervisorsPart (s : State) : List Byte :=
  si16 s.hd.hoistTorque ++ si16 s.hd.dragTorque ++
    [bit8 s.hd.tightLine, bit8 s.hd.hoistOvertravel, bit8 s.hd.dragOvertravel, bit8 s.hd.grounded,
      bit8 s.hd.evaluated] ++
    si16 s.swing.speed ++ si16 s.swing.target ++
    [bit8 s.swing.plugging, bit8 s.swing.window, bit8 s.swing.tubLifted, bit8 s.swing.steering,
      bit8 s.swing.beaconRequest]

/-- One cam of part 5: phase, last progress, pending (R128). -/
def camBytes (c : Cam) : List Byte := [byteOf (phaseCode c.phase)] ++ optional16 c.progress ++ [byteOf c.pending.code]

/-- D, or 0x8000 where it is undefined (R180). -/
def diffBytes : Option Int → List Byte
  | some d => si16 d
  | none => le16 0x8000

/-- Part 5: the walk sequencer (R128). -/
def walkPart (s : State) : List Byte :=
  let w := s.walk
  camBytes w.left ++ camBytes w.right ++ diffBytes w.diff ++
    [byteOf (phaseCode (machinePhase w)), bit8 (bothRaised w)] ++ si16 w.walkL ++ si16 w.walkR ++
    [bit8 w.sync, bit8 w.stall] ++ timerBytes w.stallTimer ++ si16 w.steps ++
    [byteOf w.selection.code, optionalBit w.lastSelect, byteOf w.warning.code] ++ timerBytes w.warnTimer ++
    timerBytes w.validTimer ++
    [bit8 w.hornRequest, bit8 w.grantHeld, byteOf w.gate.code, bit8 s.hd.grounded, bit8 s.swing.window]

/-- One slot of part 6: flags, delay elapsed, occurrence count. -/
def slotBytes (r : AlarmRun) : List Byte :=
  [byteOf (r.raw.toNat + 2 * r.filtered.toNat)] ++ timerBytes r.delay ++ [byteOf r.count]

/-- Part 6: the silence flag, the alarm horn request, then sixteen slots (R147). -/
def slotsPart (s : State) (group : Nat) : List Byte :=
  [bit8 s.alarms.silence, bit8 s.alarms.hornRequest] ++
    (((s.alarms.runs.toList.drop (16 * group)).take 16).map slotBytes).flatten

/-- Part 7: the annunciator (R159). -/
def annunciatorPart (s : State) : List Byte :=
  (List.finRange 48).map (fun l => byteOf (lampState s l).code) ++
    [bit8 s.ann.lampTest, bit8 s.ann.lampDark, bit8 s.alarms.hornRequest, bit8 s.walk.hornRequest,
      bit8 s.ann.operatorRequest, byteOf (grantCode s.ann.grant), bit8 s.swing.beaconRequest, bit8 (hornOutput s),
      bit8 (beaconOutput s)]

/-- Part 8: the mode controller (R169). -/
def modePart (s : State) : List Byte :=
  [byteOf s.ctl.mode.code] ++ s.ctl.check.bytes ++ eachMotionBytes (fun m => le16 (s.ctl.figures.get m)) ++
    timerBytes s.ctl.settleTimer ++ [byteOf s.ctl.resetCause.code] ++ le32 s.ctl.time.toNat

/-- The parts that take no argument carry the argument "none", 0xFF (R180; log entry 11). -/
def noArgument (argument : Nat) (data : List Byte) : Option (List Byte) := if argument = 0xFF then some data else none

/-- The values of a part, or none where the part or its argument is out of range (R182). -/
def statusPart (s : State) (part argument : Nat) : Option (List Byte) :=
  match part with
  | 0 =>
    match motionOfCode (argument % 4) with
    | some m => if argument / 4 ≤ 29 then some (recordPart s m (argument / 4)) else none
    | none => none
  | 1 => noArgument argument (trackerPart s)
  | 2 => noArgument argument (channelsPart s)
  | 3 => noArgument argument (brakesPart s)
  | 4 => noArgument argument (supervisorsPart s)
  | 5 => noArgument argument (walkPart s)
  | 6 => if argument ≤ 3 then some (slotsPart s argument) else none
  | 7 => noArgument argument (annunciatorPart s)
  | 8 => noArgument argument (modePart s)
  | _ => none

/-! ### The other reads (R182) -/

/-- One entry of the active alarm list, 12 bytes (R147, R182). -/
def listEntry (a : AlarmProc) (n : Fin 64) : List Byte :=
  let r := a.runs[n]
  let flags := (decide (a.firstOut = some n)).toNat + 2 * r.lastRaise.isSome.toNat + 4 * r.shelvedUntil.isSome.toNat
  [byteOf n.val, byteOf r.state.code, byteOf r.count, byteOf flags] ++ optional32 r.lastRaise ++ optional32 r.shelvedUntil

/-- The data of ALARM_LIST_READ: list length, first-out alarm, up to 8 entries from an index. -/
def alarmListData (s : State) (index : Nat) : List Byte :=
  [byteOf s.alarms.active.length, alarmByte s.alarms.firstOut] ++
    (((s.alarms.active.drop index).take 8).map (listEntry s.alarms)).flatten

/-- The data of TRIP_RECORD_READ. -/
def tripRecordData (s : State) : List Byte :=
  match s.alarms.trip with
  | none => [0#8]
  | some t =>
    [1#8, byteOf t.alarm.val] ++ le32 t.time.toNat ++ eachMotionBytes (fun m => si16 (t.refs.get m)) ++
      eachAxisBytes (fun a => le16 (t.positions.get a))

/-- The data of PEAK_READ. -/
def peakData (c : Channel) : List Byte := le16 c.peak ++ le16 c.sats

/-- The five counters every port keeps, but FORMAT. -/
def counterBytes (k : PortCounters) : List Byte := [byteOf k.runt, byteOf k.long, byteOf k.aborted, byteOf k.badFcs]

/-- The data of LINK_COUNTERS_READ: sixteen counters. -/
def linkCounterData (s : State) : List Byte :=
  counterBytes s.links.cab.counters ++ [byteOf s.links.cab.counters.format] ++
    counterBytes s.links.drive.counters ++ [byteOf s.links.drive.counters.format] ++
    counterBytes s.links.monitor.counters ++
    [byteOf s.links.monitor.overrun, byteOf s.links.monitor.counters.format]

/-- A table as it stands in its encoding, or none where the identifier or argument is out of range (R179, R182). -/
def tableEncoding (s : State) (identifier argument : Nat) : Option (List Byte) :=
  match identifier with
  | 1 => (motionOfCode argument).map (fun m => encodeChannel (s.channels.get m).params)
  | 2 =>
    match argument with
    | 0 => some (encodeZones false s.zones.hoist)
    | 1 => some (encodeZones false s.zones.drag)
    | 2 => some (encodeZones true s.zones.swing)
    | _ => none
  | 3 => noArgument argument (encodePhases s.walk.table)
  | 4 => (alarmOfCode argument).map (fun n => encodeAlarmDef s.alarms.defs[n])
  | 5 => if h : argument < 48 then some (encodeLampMap s.ann.lampMap[argument]) else none
  | 6 => (patternOfCode argument).map (fun n => encodePattern (s.ann.patterns.get n))
  | 7 => (axisOfCode argument).map (fun a => encodeAxis a (s.axisParams.get a))
  | 8 => noArgument argument (encodeMachine s.machine)
  | _ => none

end Sys2Proof.Machine
end

