-- ==== Sys2Proof/Machine/Links.lean ====
section
/-! DEFINITION. The cab and drive exchanges (R174, R175, R176): the frames taken and handed to their consumers, the
freshness timers, and the frames sent. -/

namespace Sys2Proof.Machine
open Sys2Proof

/-! ### CAB_COMMAND (R174) -/

/-- The consumers of a CAB_COMMAND. -/
inductive CabPart where
  | levers | holds | walkSelect | buttons | lampTest | horn | inputs | link
deriving DecidableEq, Repr

def cabParts : List CabPart := [.levers, .holds, .walkSelect, .buttons, .lampTest, .horn, .inputs, .link]

/-- The four lever positions latched, limited to -1000..1000 (R46). -/
def takeLevers (levers : PerMotion Int) (s : State) : State :=
  eachMotion (fun m t => t.setChannel m { t.channels.get m with latched := limitMille (levers.get m) }) s

/-- HOLD CAB follows the four hold bits (R21). -/
def takeHolds (holds : PerMotion Bool) (s : State) : State :=
  eachMotion (fun m t => setStop m (.hold .cab) (holds.get m) t) s

/-- Lamp test follows its bit (R151). -/
def setLampTest (b : Bool) (s : State) : State := s.setAnn { s.ann with lampTest := b }

/-- A valid frame of the cab port's kind: the freshness timer restarts and a loss ends (R175). -/
def freshenCab (s : State) : State :=
  s.setLinks { s.links with cab := { s.links.cab with fresh := startTimer 10, lost := false } }

def takeCabPart (f : CabFrame) : CabPart → State → State
  | .levers, s => takeLevers f.levers s
  | .holds, s => takeHolds f.holds s
  | .walkSelect, s => takeWalkSelect f.walkSelect s
  | .buttons, s => takeButtons ⟨f.ack, f.reset, f.silence⟩ s
  | .lampTest, s => setLampTest f.lampTest s
  | .horn, s => setOperatorHorn f.horn s
  | .inputs, s => takeCabInputs f.inputs s
  | .link, s => freshenCab s

/-- A CAB_STATUS is sent, or waits while an earlier one is being sent; at most one waits (R174). -/
def sendCabStatus (f : Frame) (s : State) : State :=
  match s.links.cabSending with
  | none => s.setLinks { s.links with cabSending := some f }
  | some _ => s.setLinks { s.links with cabWaiting := some f }

/-- The consumers take the frame in events of their own, in either order. -/
def takeCabFrame (f : CabFrame) (s : State) : State :=
  takeEither (fun p t => afterEvent (takeCabPart f p t)) cabParts s

/-- A CAB_COMMAND of the right length is taken and answered; one of another length fails the format check (R171, R181). -/
def cabCommand (body : List Byte) (s : State) : State :=
  if body.length = cabCommandLength then
    let s := takeCabFrame (cabFrameOf body) s
    sendCabStatus (cabStatusFrame s) s
  else countCheck .cab .format s

def execCabCommand (body : List Byte) (s : State) : Host.Outcome State Fault Refusal :=
  .next (whenRunning (cabCommand body) s)

/-- CAB_STATUS_TX_DONE (R174): the waiting status, if any, is sent. -/
def cabStatusTxDone (s : State) : State :=
  s.setLinks { s.links with cabSending := s.links.cabWaiting, cabWaiting := none }

def execCabStatusTxDone (s : State) : Host.Outcome State Fault Refusal := .next (whenRunning cabStatusTxDone s)

/-- What CAB_LINK_LOST becoming true brings: the channels disarm, lamp test and the operator horn request fall (R175). -/
def loseCabLink (s : State) : State :=
  let s := s.setLinks { s.links with cab := { s.links.cab with fresh := none, lost := true } }
  setOperatorHorn false (setLampTest false (eachMotion disarm s))

/-- CAB_LINK_LOST (R175). -/
def cabLinkLost (s : State) : State := if timerDue s.links.cab.fresh then afterEvent (loseCabLink s) else s

def execCabLinkLost (s : State) : Host.Outcome State Fault Refusal := .next (whenRunning cabLinkLost s)

/-! ### DRIVE_FEEDBACK (R176) -/

/-- The consumers of a DRIVE_FEEDBACK. -/
inductive DrivePart where
  | link | tracker | hoistDrag | walk | swing | faults | settle
  | ready (m : Motion)
  | brake (m : Motion)
deriving DecidableEq, Repr

def driveParts : List DrivePart :=
  [.link, .tracker, .hoistDrag, .walk, .swing, .faults, .settle] ++ allMotions.map DrivePart.ready ++
    allMotions.map DrivePart.brake

/-- The hoist-drag supervisor and the walk sequencer read what the tracker leaves (R38), and the settle step what the
brake sequencers leave (R163). -/
def driveBefore : DrivePart → DrivePart → Bool
  | .tracker, .hoistDrag => true
  | .tracker, .walk => true
  | .brake _, .settle => true
  | _, _ => false

/-- A valid frame of the drive port's kind: the freshness timer restarts and a loss ends (R175). -/
def freshenDrive (s : State) : State :=
  s.setLinks { s.links with drive := { s.links.drive with fresh := startTimer 5, lost := false } }

/-- The delta of a cam that the tracker hands on at this arrival (R38). -/
def camDelta (f : DriveFrame) (s : State) (a : Axis) : Option Int :=
  handedDelta (s.axisParams.get a) s.tracker.countsBased (f.raws.get a) (s.tracker.axes.get a)

/-- `before` is the part as it stood before the arrival, from which the cam deltas are formed. -/
def takeDrivePart (f : DriveFrame) (before : State) : DrivePart → State → State
  | .link, s => freshenDrive s
  | .tracker, s => takeCounts f.raws f.refs s
  | .hoistDrag, s => takeTorques f.torques.hoist f.torques.drag s
  | .walk, s => takeCams (camDelta f before .camL) (camDelta f before .camR) s
  | .swing, s => takeSwingSpeed f.speeds.swing s
  | .faults, s => takeDriveInputs f.faults s
  | .settle, s => settleArrival s
  | .ready m, s => setStop m (.hold .drive) (!f.ready.get m) s
  | .brake m, s => brakeArrival m (f.released.get m) (f.speeds.get m) s

/-- The consumers take the frame, in any order that R38 and R163 allow. -/
def takeDriveFrame (f : DriveFrame) (s : State) : State :=
  takeInOrder driveBefore (fun p t => afterEvent (takeDrivePart f s p t)) driveParts s

/-- A DRIVE_FEEDBACK of the right length is taken; one of another length fails the format check (R171, R181). -/
def driveFeedback (body : List Byte) (s : State) : State :=
  if body.length = driveFeedbackLength then takeDriveFrame (driveFrameOf body) s else countCheck .drive .format s

def execDriveFeedback (body : List Byte) (s : State) : Host.Outcome State Fault Refusal :=
  .next (whenRunning (driveFeedback body) s)

/-- What DRIVE_LINK_LOST becoming true brings: the counts are no longer based, and a settle step ends (R175). -/
def loseDriveLink (s : State) : State :=
  let s := s.setLinks { s.links with drive := { s.links.drive with fresh := none, lost := true } }
  settleLinkLost (s.setTracker { s.tracker with countsBased := false })

/-- DRIVE_LINK_LOST (R175). -/
def driveLinkLost (s : State) : State := if timerDue s.links.drive.fresh then afterEvent (loseDriveLink s) else s

def execDriveLinkLost (s : State) : Host.Outcome State Fault Refusal := .next (whenRunning driveLinkLost s)

/-- DRIVE_REFERENCE (R176): the reference is formed and sent, and the timer restarts. -/
def driveReference (s : State) : State :=
  if s.links.refTimer.due then
    s.setLinks { s.links with driveSent := some (driveReferenceFrame s), refTimer := ⟨0, 1⟩ }
  else s

def execDriveReference (s : State) : Host.Outcome State Fault Refusal := .next (whenRunning driveReference s)

end Sys2Proof.Machine
end

