-- ==== Sys2Proof/Machine/Monitor.lean ====
section
/-! DEFINITION. The monitor port: the receive buffer (R172), the taking and answering of requests (R177, R178), and the
effect of every request. -/

namespace Sys2Proof.Machine
open Sys2Proof

/-! ### The receive buffer (R172) -/

/-- A frame that passed the link checks: addressed elsewhere it is ignored, with two waiting it is an overrun, and
otherwise it is appended. A body that no link check would pass is the LONG one (R171). -/
def monitorFrameReceived (address kind : Byte) (body : List Byte) (s : State) : State :=
  if maxBody < body.length then countCheck .monitor (.long) s
  else match destOf s address with
    | none => s
    | some dest =>
      if 2 ≤ s.links.monitor.buffer.length then countCheck .monitor .overrun s
      else s.setLinks { s.links with monitor := { s.links.monitor with
        buffer := s.links.monitor.buffer ++ [⟨dest, kind, body⟩] } }

def execMonitorFrameReceived (address kind : Byte) (body : List Byte) (s : State) : Host.Outcome State Fault Refusal :=
  .next (whenRunning (monitorFrameReceived address kind body) s)

/-- The head of the buffer leaves it. -/
def dropRequest (s : State) : State :=
  s.setLinks { s.links with monitor := { s.links.monitor with buffer := s.links.monitor.buffer.tail } }

/-- The kind RESTART. -/
def restartKind : Byte := 0x32#8

/-- MONITOR_RESPONSE_SENT (R177): the request leaves the buffer; after the response to an accepted RESTART the reset is
taken (R167). -/
def monitorResponseSent (straps : Fin 16) (s : State) : State :=
  match s.links.monitor.response with
  | none => s
  | some r =>
    if r.kind = restartKind ∧ r.code = .accepted then resetBy .restart straps s
    else dropRequest (s.setLinks { s.links with monitor := { s.links.monitor with response := none } })

def execMonitorResponseSent (straps : Fin 16) (s : State) : Host.Outcome State Fault Refusal :=
  .next (whenRunning (monitorResponseSent straps) s)

/-! ### Taking a request (R177, R178) -/

/-- What carrying out a request gives: the part after it, the result code, and the data of an ACCEPTED response. -/
structure Done where
  state : State
  code : ResultCode
  data : List Byte

/-- A refused request changes nothing (R177). -/
def refuse (code : ResultCode) (s : State) : Done := ⟨s, code, []⟩

def accept (s : State) : Done := ⟨s, .accepted, []⟩

def acceptWith (data : List Byte) (s : State) : Done := ⟨s, .accepted, data⟩

/-- ACCEPTED where something changed, NO_CHANGE otherwise. -/
def acceptIf (changed : Bool) (after before : State) : Done := if changed then accept after else ⟨before, .noChange, []⟩

/-- The response is formed and its sending begins; a broadcast is not answered and leaves the buffer (R177). -/
def answer (dest : Dest) (kind : Byte) (d : Done) : State :=
  match dest with
  | .station =>
    d.state.setLinks { d.state.links with monitor := { d.state.links.monitor with
      response := some ⟨kind, d.code, d.data⟩ } }
  | .broadcast => dropRequest d.state

/-- The request stands at the head of the buffer, and no response is being sent (R177). -/
def atHead (dest : Dest) (kind : Byte) (body : List Byte) (s : State) : Bool :=
  decide (s.links.monitor.buffer.head? = some ⟨dest, kind, body⟩) && s.links.monitor.response.isNone

/-- A request is taken from the head of the buffer and answered; the command has no effect where the request is not there
to be taken (log entry 9). -/
def takeRequest (dest : Dest) (kind : Byte) (body : List Byte) (rule : State → Done) (s : State) : State :=
  if atHead dest kind body s then answer dest kind (rule s) else s

/-- A request judged UNKNOWN_KIND or BAD_FORMAT is counted under FORMAT (R171). -/
def countedRefusal (code : ResultCode) (s : State) : Done := refuse code (countCheck .monitor .format s)

/-- The modes in which a request is available (R178). -/
def inMode (modes : List Mode) (s : State) : Bool := modes.contains s.ctl.mode

def anyMode : List Mode := [.config, .check, .ready, .lockout]

/-- Format, then mode, then the request's own rule (R178). -/
def judge (kind : Byte) (body : List Byte) (modes : List Mode) (rule : State → Done) (s : State) : Done :=
  if requestFits kind body then
    if inMode modes s then rule s else refuse .wrongMode s
  else countedRefusal .badFormat s

/-- UNKNOWN_KIND (R178). -/
def execUnknownKind (dest : Dest) (kind : Byte) (body : List Byte) (s : State) : Host.Outcome State Fault Refusal :=
  .next (whenRunning (fun t =>
    if knownKind kind then t else takeRequest dest kind body (countedRefusal .unknownKind) t) s)

/-- BAD_FORMAT (R178). -/
def execBadFormat (dest : Dest) (kind : Byte) (body : List Byte) (s : State) : Host.Outcome State Fault Refusal :=
  .next (whenRunning (fun t =>
    if knownKind kind && !requestFits kind body then takeRequest dest kind body (countedRefusal .badFormat) t else t) s)

/-! ### TABLE_WRITE (R178, R179) -/

/-- The bytes of a write after its identifier and argument. -/
def writeTable (body : List Byte) : List Byte := body.drop 2

/-- The argument of a write. -/
def writeArgument (body : List Byte) : Nat := byteAt body 1

/-- A decoded table and argument take effect; where either is out of range the write is refused (R179). -/
def storeDecoded {α β : Type} (arg : Option α) (table : Option β) (store : α → β → State → Done) (s : State) : Done :=
  match arg, table with
  | some a, some t => store a t s
  | _, _ => refuse .outOfRange s

/-- A TABLE_WRITE row takes the writes of its own identifier and those of an unknown one, which are out of range; a write
of another table is another row's (log entry 10). -/
def takeWrite (identifier : Nat) (dest : Dest) (body : List Byte) (rule : State → Done) (s : State) : State :=
  if knownTable (writeIdentifier body) && decide (writeIdentifier body ≠ identifier) then s
  else takeRequest dest 0x20#8 body
    (judge 0x20#8 body [.config] (if writeIdentifier body = identifier then rule else refuse .outOfRange)) s

/-- CHANNEL(ch) (R45). -/
def storeChannel (m : Motion) (p : ChannelParams) (s : State) : Done :=
  accept (s.setChannel m { s.channels.get m with params := p })

def writeChannel (body : List Byte) (s : State) : Done :=
  storeDecoded (motionOfCode (writeArgument body)) (decodeChannel (writeTable body)) storeChannel s

def execTableWriteChannel (dest : Dest) (body : List Byte) (s : State) : Host.Outcome State Fault Refusal :=
  .next (whenRunning (takeWrite 1 dest body (writeChannel body)) s)

/-- ZONES(axis) (R13). -/
def writeZones (body : List Byte) (s : State) : Done :=
  match writeArgument body, decodeZones (decide (writeArgument body = 2)) (writeTable body) with
  | 0, some zs => accept { s with zones := { s.zones with hoist := zs } }
  | 1, some zs => accept { s with zones := { s.zones with drag := zs } }
  | 2, some zs => accept { s with zones := { s.zones with swing := zs } }
  | _, _ => refuse .outOfRange s

def execTableWriteZones (dest : Dest) (body : List Byte) (s : State) : Host.Outcome State Fault Refusal :=
  .next (whenRunning (takeWrite 2 dest body (writeZones body)) s)

/-- The argument "none" of WALK_PHASES and MACHINE, 0xFF (R179, R180; log entry 11). -/
def noneArgument (body : List Byte) : Option Unit := if writeArgument body = 0xFF then some () else none

/-- WALK_PHASES (R110): both pendings become NONE and both last progress values absent. -/
def storePhases (t : PhaseTable) (s : State) : Done :=
  accept (s.setWalk { s.walk with table := some t, left := { s.walk.left with pending := Pending.none, progress := none },
                                  right := { s.walk.right with pending := .none, progress := none } })

def writePhases (body : List Byte) (s : State) : Done :=
  storeDecoded (noneArgument body) (decodePhases (writeTable body)) (fun _ => storePhases) s

def execTableWriteWalkPhases (dest : Dest) (body : List Byte) (s : State) : Host.Outcome State Fault Refusal :=
  .next (whenRunning (takeWrite 3 dest body (writePhases body)) s)

/-- The definitions with slot `n` replaced. -/
def defsWith (a : AlarmProc) (n : Fin 64) (d : Option AlarmDef) : Vector (Option AlarmDef) 64 := a.defs.set n d

/-- The defined alarms of class SLOW, STOP or TRIP that include a motion (R6). -/
def motionCount (defs : Vector (Option AlarmDef) 64) (m : Motion) : Nat :=
  ((List.finRange 64).filter (fun n => match defs[n] with
    | some d => !d.cls.isAdvisory && d.motions.get m
    | none => false)).length

/-- More than 20 alarms would include one and the same motion (R6). -/
def overLimit (defs : Vector (Option AlarmDef) 64) : Bool := allMotions.any (fun m => decide (20 < motionCount defs m))

/-- The consequence under the definition a slot held is removed if it is present: step 1 of R132. -/
def restConsequence (n : Fin 64) (st : AlarmState) (old : Option AlarmDef) (s : State) : State :=
  match old with
  | some d => if inEffect d st then dropConsequence n d s else s
  | none => s

/-- The entry into NORMAL that a write brings is judged by the definition that it replaced (R141). -/
def restFirstOut (st : AlarmState) (old : Option AlarmDef) (s : State) : State :=
  match old with
  | some d => if st = .normal then s else clearFirstOut d s
  | none => s

/-- Slot `n` brought to rest under the definition it held: steps 1 to 5 of R132. DESIGN CHOICE (log entry 21): the alarm horn
request is not evaluated at this rest, only from step 6 on, so that the horn does not start afresh for a RAISED alarm that
the new definition raises again at once; R145 read alone would evaluate it at the rest too. -/
def restSlot (n : Fin 64) (s : State) : State :=
  let run := s.alarms.runs[n]
  let old := s.alarms.defs[n]
  let s := restConsequence n run.state old s
  let s := setRun n { run with state := .normal, filtered := false, delay := none, shelvedUntil := none } s
  let s := s.setAlarms { s.alarms with active := s.alarms.active.erase n }
  let s := if s.alarms.firstOut = some n then s.setAlarms { s.alarms with firstOut := none } else s
  restFirstOut run.state old s

/-- The new definition taken up, with the raw condition formed afresh: step 6 of R132. -/
def adoptDef (n : Fin 64) (d : Option AlarmDef) (s : State) : State :=
  let s := s.setAlarms { s.alarms with defs := defsWith s.alarms n d }
  let s := setRun n { s.alarms.runs[n] with raw := false } s
  match d with
  | none => s
  | some new => if rawCondition s.alarms new then setRaw n new true s else s

/-- ALARM_DEF(n) (R132): the limit (R6), then the slot at rest, the new definition, and the horn request. -/
def storeAlarmDef (n : Fin 64) (d : Option AlarmDef) (s : State) : Done :=
  if overLimit (defsWith s.alarms n d) then refuse .limit s
  else accept (afterEvent (evalAlarmHorn (adoptDef n d (restSlot n s))))

def writeAlarmDef (body : List Byte) (s : State) : Done :=
  storeDecoded (alarmOfCode (writeArgument body)) (decodeAlarmDef (writeTable body)) storeAlarmDef s

def execTableWriteAlarmDef (dest : Dest) (body : List Byte) (s : State) : Host.Outcome State Fault Refusal :=
  .next (whenRunning (takeWrite 4 dest body (writeAlarmDef body)) s)

/-- LAMP_MAP(lamp) (R149). -/
def writeLampMap (body : List Byte) (s : State) : Done :=
  if h : writeArgument body < 48 then
    match decodeLampMap (writeTable body) with
    | some xs => accept (s.setAnn { s.ann with lampMap := s.ann.lampMap.set (writeArgument body) xs })
    | none => refuse .outOfRange s
  else refuse .outOfRange s

def execTableWriteLampMap (dest : Dest) (body : List Byte) (s : State) : Host.Outcome State Fault Refusal :=
  .next (whenRunning (takeWrite 5 dest body (writeLampMap body)) s)

/-- PATTERN(n) (R152). -/
def writePatternTable (body : List Byte) (s : State) : Done :=
  storeDecoded (patternOfCode (writeArgument body)) (decodePattern (writeTable body))
    (fun n p t => accept (writePattern n p t)) s

def execTableWritePattern (dest : Dest) (body : List Byte) (s : State) : Host.Outcome State Fault Refusal :=
  .next (whenRunning (takeWrite 6 dest body (writePatternTable body)) s)

/-- AXIS(axis) (R26, R37). -/
def storeAxis (a : Axis) (p : AxisParams) (s : State) : Done :=
  let track := trackAfterWrite (s.axisParams.get a) p (s.tracker.axes.get a)
  accept { s with
    axisParams := s.axisParams.set a p, tracker := { s.tracker with axes := s.tracker.axes.set a track } }

def writeAxis (body : List Byte) (s : State) : Done :=
  match axisOfCode (writeArgument body) with
  | none => refuse .outOfRange s
  | some a => storeDecoded (some a) (decodeAxis a (writeTable body)) storeAxis s

def execTableWriteAxis (dest : Dest) (body : List Byte) (s : State) : Host.Outcome State Fault Refusal :=
  .next (whenRunning (takeWrite 7 dest body (writeAxis body)) s)

/-- MACHINE (R68): a STEER_LIMIT that is present is updated at once (R95). -/
def storeMachine (p : MachineParams) (s : State) : Done :=
  let s := { s with machine := p }
  accept (if hasSource s.records.swing.reasons (.interlock .steerLimit) then insertReason .swing (steerEntry s) s else s)

def writeMachine (body : List Byte) (s : State) : Done :=
  storeDecoded (noneArgument body) (decodeMachine (writeTable body)) (fun _ => storeMachine) s

def execTableWriteMachine (dest : Dest) (body : List Byte) (s : State) : Host.Outcome State Fault Refusal :=
  .next (whenRunning (takeWrite 8 dest body (writeMachine body)) s)

/-! ### The reads (R179, R182) -/

/-- Data read, or OUT_OF_RANGE where there is none. -/
def readData (data : Option (List Byte)) (s : State) : Done :=
  match data with
  | some d => acceptWith d s
  | none => refuse .outOfRange s

/-- TABLE_READ: the identifier and argument, then the table as it stands. -/
def readTable (body : List Byte) (s : State) : Done :=
  readData ((tableEncoding s (byteAt body 0) (byteAt body 1)).map (fun enc => body.take 2 ++ enc)) s

def execTableRead (dest : Dest) (body : List Byte) (s : State) : Host.Outcome State Fault Refusal :=
  .next (whenRunning (takeRequest dest 0x21#8 body (judge 0x21#8 body anyMode (readTable body))) s)

/-- STATUS_READ. -/
def readStatus (body : List Byte) (s : State) : Done := readData (statusPart s (byteAt body 0) (byteAt body 1)) s

def execStatusRead (dest : Dest) (body : List Byte) (s : State) : Host.Outcome State Fault Refusal :=
  .next (whenRunning (takeRequest dest 0x22#8 body (judge 0x22#8 body anyMode (readStatus body))) s)

/-- ALARM_LIST_READ (R147). -/
def readAlarmList (body : List Byte) (s : State) : Done := acceptWith (alarmListData s (byteAt body 0)) s

def execAlarmListRead (dest : Dest) (body : List Byte) (s : State) : Host.Outcome State Fault Refusal :=
  .next (whenRunning (takeRequest dest 0x23#8 body (judge 0x23#8 body anyMode (readAlarmList body))) s)

/-- TRIP_RECORD_READ (R142). -/
def readTripRecord (s : State) : Done := acceptWith (tripRecordData s) s

def execTripRecordRead (dest : Dest) (body : List Byte) (s : State) : Host.Outcome State Fault Refusal :=
  .next (whenRunning (takeRequest dest 0x24#8 body (judge 0x24#8 body anyMode readTripRecord)) s)

/-- PEAK_READ (R54): the peak and the saturation count are returned, then cleared. -/
def readPeak (body : List Byte) (s : State) : Done :=
  match motionOfCode (byteAt body 0) with
  | none => refuse .outOfRange s
  | some m => acceptWith (peakData (s.channels.get m)) (s.setChannel m { s.channels.get m with peak := 0, sats := 0 })

def execPeakRead (dest : Dest) (body : List Byte) (s : State) : Host.Outcome State Fault Refusal :=
  .next (whenRunning (takeRequest dest 0x25#8 body (judge 0x25#8 body anyMode (readPeak body))) s)

/-- The sixteen counters at 0. -/
def clearCounters (s : State) : State :=
  s.setLinks { s.links with
    cab := { s.links.cab with counters := PortCounters.fresh },
    drive := { s.links.drive with counters := PortCounters.fresh },
    monitor := { s.links.monitor with counters := PortCounters.fresh, overrun := 0 } }

/-- LINK_COUNTERS_READ (R173). -/
def readLinkCounters (s : State) : Done := acceptWith (linkCounterData s) (clearCounters s)

def execLinkCountersRead (dest : Dest) (body : List Byte) (s : State) : Host.Outcome State Fault Refusal :=
  .next (whenRunning (takeRequest dest 0x26#8 body (judge 0x26#8 body anyMode readLinkCounters)) s)

/-! ### The mode requests -/

/-- The four expected figures of a GO (R162, R182). -/
def goFigures (body : List Byte) : PerMotion Nat := ⟨wordAt body 0, wordAt body 2, wordAt body 4, wordAt body 6⟩

/-- GO (R162). -/
def execGo (dest : Dest) (body : List Byte) (s : State) : Host.Outcome State Fault Refusal :=
  .next (whenRunning (takeRequest dest 0x27#8 body
    (judge 0x27#8 body [.config] (fun t => accept (runCheck (goFigures body) t)))) s)

/-- ABORT_CHECK (R164). -/
def execAbortCheck (dest : Dest) (body : List Byte) (s : State) : Host.Outcome State Fault Refusal :=
  .next (whenRunning (takeRequest dest 0x28#8 body
    (judge 0x28#8 body [.check] (fun t => accept (endCheck .config .aborted t)))) s)

/-- The four published references are 0. -/
def allAtRest (s : State) : Bool := allMotions.all (fun m => decide ((s.channels.get m).r = 0))

/-- STOP_RUN (R166). -/
def stopRunRule (s : State) : Done :=
  if allBrakesSet s && allAtRest s then accept (afterEvent (leaveReady .config s)) else refuse .busy s

def execStopRun (dest : Dest) (body : List Byte) (s : State) : Host.Outcome State Fault Refusal :=
  .next (whenRunning (takeRequest dest 0x29#8 body (judge 0x29#8 body [.ready] stopRunRule)) s)

/-- RESTART (R167): answered first, the reset being taken once the response has been sent; a broadcast is carried out at
once. -/
def restartRule (dest : Dest) (straps : Fin 16) (s : State) : Done :=
  match dest with
  | .station => accept s
  | .broadcast => accept (resetBy .restart straps s)

def execRestart (dest : Dest) (body : List Byte) (straps : Fin 16) (s : State) : Host.Outcome State Fault Refusal :=
  .next (whenRunning (takeRequest dest 0x32#8 body
    (judge 0x32#8 body [.config, .check, .lockout] (restartRule dest straps))) s)

/-! ### The alarm requests (R137, R138, R143) -/

/-- The alarms a request names: one number, or 0xFF for ALL; none where the number is out of range. -/
def namedAlarms (body : List Byte) : Option (List (Fin 64)) :=
  if byteAt body 0 = 0xFF then some (List.finRange 64) else (alarmOfCode (byteAt body 0)).map (fun n => [n])

/-- ALARM_ACK (R137). -/
def ackRule (body : List Byte) (s : State) : Done :=
  match namedAlarms body with
  | none => refuse .outOfRange s
  | some ns =>
    let moved := ns.filter (unacknowledged s.alarms)
    acceptIf (!moved.isEmpty) (afterEvent (takeEither acknowledge moved s)) s

def execAlarmAck (dest : Dest) (body : List Byte) (s : State) : Host.Outcome State Fault Refusal :=
  .next (whenRunning (takeRequest dest 0x2A#8 body (judge 0x2A#8 body anyMode (ackRule body))) s)

/-- ALARM_RESET (R138). -/
def resetRule (body : List Byte) (s : State) : Done :=
  match namedAlarms body with
  | none => refuse .outOfRange s
  | some ns =>
    let moved := ns.filter (fun n => decide ((s.alarms.runs[n]).state = .latched))
    acceptIf (!moved.isEmpty) (afterEvent (takeEither resetAlarm moved s)) s

def execAlarmReset (dest : Dest) (body : List Byte) (s : State) : Host.Outcome State Fault Refusal :=
  .next (whenRunning (takeRequest dest 0x2B#8 body (judge 0x2B#8 body anyMode (resetRule body))) s)

/-- The machine time at which a shelving of so many seconds ends (R143). -/
def shelvingEnd (s : State) (seconds : Nat) : BitVec 32 := s.ctl.time + BitVec.ofNat 32 (seconds * 100)

/-- A slot can be shelved: it is defined, and not of class STOP or TRIP (R143). -/
def shelvable (a : AlarmProc) (n : Fin 64) : Bool :=
  match a.defs[n] with
  | some d => !d.cls.isStopOrTrip
  | none => false

/-- ALARM_SHELVE (R143). -/
def shelveRule (body : List Byte) (s : State) : Done :=
  match alarmOfCode (byteAt body 0), ranged 1 3600 (wordAt body 1) with
  | some n, some seconds =>
    if shelvable s.alarms n then accept (setShelved n (some (shelvingEnd s seconds)) s) else refuse .notPermitted s
  | _, _ => refuse .outOfRange s

def execAlarmShelve (dest : Dest) (body : List Byte) (s : State) : Host.Outcome State Fault Refusal :=
  .next (whenRunning (takeRequest dest 0x2C#8 body (judge 0x2C#8 body anyMode (shelveRule body))) s)

/-- ALARM_UNSHELVE (R143). -/
def unshelveRule (body : List Byte) (s : State) : Done :=
  match alarmOfCode (byteAt body 0) with
  | none => refuse .outOfRange s
  | some n => acceptIf (s.alarms.runs[n]).shelvedUntil.isSome (setShelved n none s) s

def execAlarmUnshelve (dest : Dest) (body : List Byte) (s : State) : Host.Outcome State Fault Refusal :=
  .next (whenRunning (takeRequest dest 0x2D#8 body (judge 0x2D#8 body anyMode (unshelveRule body))) s)

/-! ### The holds, LAMP_DARK and POSITION_SET (R23, R151, R35) -/

/-- The motions a set names. -/
def namedMotions (body : List Byte) : List Motion := allMotions.filter (fun m => (motionSetAt body 0).get m)

/-- Whether a motion's record holds HOLD MONITOR. -/
def monitorHeld (s : State) (m : Motion) : Bool := hasSource (s.records.get m).reasons (.hold .monitor)

/-- HOLD_SET and HOLD_CLEAR (R23). -/
def holdRule (want : Bool) (body : List Byte) (s : State) : Done :=
  if (namedMotions body).isEmpty then refuse .outOfRange s
  else
    let changes := (namedMotions body).any (fun m => decide (monitorHeld s m ≠ want))
    acceptIf changes (afterEvent ((namedMotions body).foldl (fun t m => setStop m (.hold .monitor) want t) s)) s

def execHoldSet (dest : Dest) (body : List Byte) (s : State) : Host.Outcome State Fault Refusal :=
  .next (whenRunning (takeRequest dest 0x2E#8 body (judge 0x2E#8 body anyMode (holdRule true body))) s)

def execHoldClear (dest : Dest) (body : List Byte) (s : State) : Host.Outcome State Fault Refusal :=
  .next (whenRunning (takeRequest dest 0x2F#8 body (judge 0x2F#8 body anyMode (holdRule false body))) s)

/-- LAMP_DARK (R151). -/
def lampDarkRule (body : List Byte) (s : State) : Done :=
  match boolOfCode (byteAt body 0) with
  | none => refuse .outOfRange s
  | some b => acceptIf (decide (s.ann.lampDark ≠ b)) (s.setAnn { s.ann with lampDark := b }) s

def execLampDark (dest : Dest) (body : List Byte) (s : State) : Host.Outcome State Fault Refusal :=
  .next (whenRunning (takeRequest dest 0x30#8 body (judge 0x30#8 body anyMode (lampDarkRule body))) s)

/-- The largest position of an axis (R35). -/
def positionMax (a : Axis) : Nat := if Axis.isRope a then 9999 else 3599

/-- POSITION_SET (R35). -/
def positionRule (body : List Byte) (s : State) : Done :=
  match axisOfCode (byteAt body 0) with
  | none => refuse .outOfRange s
  | some a =>
    if positionMax a < wordAt body 1 then refuse .outOfRange s
    else if s.brakeSet (Axis.motion a) then accept (afterEvent (setPosition a (wordAt body 1) s))
    else refuse .busy s

def execPositionSet (dest : Dest) (body : List Byte) (s : State) : Host.Outcome State Fault Refusal :=
  .next (whenRunning (takeRequest dest 0x31#8 body (judge 0x31#8 body anyMode (positionRule body))) s)

end Sys2Proof.Machine
end

