-- ==== Sys2Proof/Machine/Dispatch.lean ====
section
/-! DEFINITION. The dispatch of a command to its meaning, one arm for each constructor. -/

namespace Sys2Proof.Machine
open Sys2Proof

def exec (i : Instr) (s : State) : Host.Outcome State Fault Refusal :=
  match i with
  | .powerOn straps => Sys2Proof.Machine.execPowerOn straps s
  | .lineResetAssert straps => Sys2Proof.Machine.execLineResetAssert straps s
  | .lineResetRelease => Sys2Proof.Machine.execLineResetRelease s
  | .machineTimeTick => Sys2Proof.Machine.execMachineTimeTick s
  | .cabCommand body => Sys2Proof.Machine.execCabCommand body s
  | .driveFeedback body => Sys2Proof.Machine.execDriveFeedback body s
  | .frameCheckFailed port line => Sys2Proof.Machine.execFrameCheckFailed port line s
  | .monitorFrameReceived address kind body => Sys2Proof.Machine.execMonitorFrameReceived address kind body s
  | .monitorResponseSent straps => Sys2Proof.Machine.execMonitorResponseSent straps s
  | .unknownKind dest kind body => Sys2Proof.Machine.execUnknownKind dest kind body s
  | .badFormat dest kind body => Sys2Proof.Machine.execBadFormat dest kind body s
  | .tableWriteChannel dest body => Sys2Proof.Machine.execTableWriteChannel dest body s
  | .tableWriteZones dest body => Sys2Proof.Machine.execTableWriteZones dest body s
  | .tableWriteWalkPhases dest body => Sys2Proof.Machine.execTableWriteWalkPhases dest body s
  | .tableWriteAlarmDef dest body => Sys2Proof.Machine.execTableWriteAlarmDef dest body s
  | .tableWriteLampMap dest body => Sys2Proof.Machine.execTableWriteLampMap dest body s
  | .tableWritePattern dest body => Sys2Proof.Machine.execTableWritePattern dest body s
  | .tableWriteAxis dest body => Sys2Proof.Machine.execTableWriteAxis dest body s
  | .tableWriteMachine dest body => Sys2Proof.Machine.execTableWriteMachine dest body s
  | .tableRead dest body => Sys2Proof.Machine.execTableRead dest body s
  | .statusRead dest body => Sys2Proof.Machine.execStatusRead dest body s
  | .alarmListRead dest body => Sys2Proof.Machine.execAlarmListRead dest body s
  | .tripRecordRead dest body => Sys2Proof.Machine.execTripRecordRead dest body s
  | .peakRead dest body => Sys2Proof.Machine.execPeakRead dest body s
  | .linkCountersRead dest body => Sys2Proof.Machine.execLinkCountersRead dest body s
  | .go dest body => Sys2Proof.Machine.execGo dest body s
  | .settleTimerExpiry => Sys2Proof.Machine.execSettleTimerExpiry s
  | .abortCheck dest body => Sys2Proof.Machine.execAbortCheck dest body s
  | .stopRun dest body => Sys2Proof.Machine.execStopRun dest body s
  | .testTimerExpiry => Sys2Proof.Machine.execTestTimerExpiry s
  | .alarmAck dest body => Sys2Proof.Machine.execAlarmAck dest body s
  | .alarmReset dest body => Sys2Proof.Machine.execAlarmReset dest body s
  | .alarmShelve dest body => Sys2Proof.Machine.execAlarmShelve dest body s
  | .alarmUnshelve dest body => Sys2Proof.Machine.execAlarmUnshelve dest body s
  | .shelvingExpiry n => Sys2Proof.Machine.execShelvingExpiry n s
  | .holdSet dest body => Sys2Proof.Machine.execHoldSet dest body s
  | .holdClear dest body => Sys2Proof.Machine.execHoldClear dest body s
  | .lampDark dest body => Sys2Proof.Machine.execLampDark dest body s
  | .positionSet dest body => Sys2Proof.Machine.execPositionSet dest body s
  | .restart dest body straps => Sys2Proof.Machine.execRestart dest body straps s
  | .cabStatusTxDone => Sys2Proof.Machine.execCabStatusTxDone s
  | .cabLinkLost => Sys2Proof.Machine.execCabLinkLost s
  | .driveLinkLost => Sys2Proof.Machine.execDriveLinkLost s
  | .driveReference => Sys2Proof.Machine.execDriveReference s
  | .channelSample m => Sys2Proof.Machine.execChannelSample m s
  | .releaseTimerExpiry m => Sys2Proof.Machine.execReleaseTimerExpiry m s
  | .holdTimerExpiry m => Sys2Proof.Machine.execHoldTimerExpiry m s
  | .setTimerExpiry m => Sys2Proof.Machine.execSetTimerExpiry m s
  | .stallTimerExpiry => Sys2Proof.Machine.execStallTimerExpiry s
  | .warningTimerExpiry => Sys2Proof.Machine.execWarningTimerExpiry s
  | .validityTimerExpiry => Sys2Proof.Machine.execValidityTimerExpiry s
  | .alarmDelayExpiry n => Sys2Proof.Machine.execAlarmDelayExpiry n s
  | .cadenceHalfExpiry g => Sys2Proof.Machine.execCadenceHalfExpiry g s

end Sys2Proof.Machine
end

