-- ==== Sys2Proof/Safety.lean ====
section
/-! DEFINITION. The laws of the part, as predicates on a state: what a safe state satisfies, in the terms the statements
use. Each is meant for every state that a step can reach from a state which satisfies it. -/

namespace Sys2Proof.Machine
open Sys2Proof

/-- R5: no reason set holds two entries from the same source. -/
def SourcesDistinct (s : State) : Prop := ∀ m, ((s.records.get m).reasons.map Reason.source).Nodup

/-- R2: NOT_RUNNING is a TRIP, and the holds and the interlocks that stop are STOP entries, wherever they stand. -/
def EffectsAsCatalogued (s : State) : Prop :=
  ∀ m, ∀ e ∈ (s.records.get m).reasons,
    match e.source with
    | .notRunning => e.effect = .trip
    | .hold _ => e.effect = .stop
    | .interlock .steerLimit => ∃ v, e.effect = .cap v .both
    | .interlock .plugging => ∃ v d, e.effect = .cap v d
    | .interlock _ => e.effect = .stop
    | .alarm _ => True

/-- R161: NOT_RUNNING is present in all four records in every mode but READY, and absent in READY. -/
def NotRunningByMode (s : State) : Prop :=
  ∀ m, hasSource (s.records.get m).reasons .notRunning = decide (s.ctl.mode ≠ .ready)

/-- R62: a reference is 0 while its brake is outside RELEASED, and while its motion is TRIPPED. -/
def GateHolds (s : State) : Prop :=
  ∀ m, ((s.brakes.get m).state ≠ .released → (s.channels.get m).r = 0) ∧ (s.permit m = .tripped → (s.channels.get m).r = 0)

/-- R62, the law of the gate: every reference is 0 whenever its brake is outside RELEASED or the mode is not READY. -/
def ReferencesGated (s : State) : Prop :=
  ∀ m, (s.brakes.get m).state ≠ .released ∨ s.ctl.mode ≠ .ready → (s.channels.get m).r = 0

/-- R70: the walk release request and a digging release request never stand together. -/
def ReleasesApart (s : State) : Prop := releaseRequest s .walk = true → ∀ m, m ≠ .walk → releaseRequest s m = false

/-- R67: each brake timer runs only in its own state. -/
def BrakeTimersInState (s : State) : Prop :=
  ∀ m, ((s.brakes.get m).releaseTimer.isSome → (s.brakes.get m).state = .releasing) ∧
    ((s.brakes.get m).setTimer.isSome → (s.brakes.get m).state = .setting) ∧
    ((s.brakes.get m).holdTimer.isSome → (s.brakes.get m).state = .released)

/-- R114: each walk reference lies between the walk channel's r and 0. -/
def WalkReferencesBounded (s : State) : Prop :=
  ∀ x, x = s.walk.walkL ∨ x = s.walk.walkR →
    (0 ≤ s.channels.walk.r → 0 ≤ x ∧ x ≤ s.channels.walk.r) ∧ (s.channels.walk.r ≤ 0 → s.channels.walk.r ≤ x ∧ x ≤ 0)

/-- R89, R101, R102, R122: the interlock reasons stand exactly while their causes do. -/
structure InterlocksMatch (s : State) : Prop where
  engagedHoist : hasSource s.records.hoist.reasons (.interlock .walkEngaged) = walkEngagedCause s
  engagedDrag : hasSource s.records.drag.reasons (.interlock .walkEngaged) = walkEngagedCause s
  tubState : s.swing.tubLifted = tubLiftedCause s
  tubReason : hasSource s.records.swing.reasons (.interlock .tubLifted) = tubLiftedCause s
  steerState : s.swing.steering = steeringCause s
  steerReason : hasSource s.records.swing.reasons (.interlock .steerLimit) = steeringCause s
  brakesReason : hasSource s.records.walk.reasons (.interlock .brakesNotSet) = diggingBrakesNotSet s
  selectedReason : hasSource s.records.walk.reasons (.interlock .notSelected) = !walkSelected s.walk
  warningReason : hasSource s.records.walk.reasons (.interlock .warningIncomplete) = decide (s.walk.warning ≠ .complete)
  beacon : s.swing.beaconRequest = beaconCause s

/-- R140, with R130: the active list holds each alarm outside NORMAL exactly once, and an empty slot is NORMAL. -/
def ActiveListExact (s : State) : Prop :=
  s.alarms.active.Nodup ∧ (∀ n : Fin 64, n ∈ s.alarms.active ↔ (s.alarms.runs[n]).state ≠ .normal) ∧
    ∀ n : Fin 64, s.alarms.defs[n] = none → (s.alarms.runs[n]).state = .normal

/-- R139: ALARM n stands in a record exactly while the alarm is in effect, not ADVISORY, and names that motion. -/
def ConsequencesExact (s : State) : Prop :=
  (∀ n : Fin 64, s.alarms.defs[n] = none → (s.alarms.runs[n]).state = .normal) ∧
    ∀ (n : Fin 64) (m : Motion), hasSource (s.records.get m).reasons (.alarm n) =
      match s.alarms.defs[n] with
      | some d => !d.cls.isAdvisory && d.motions.get m && inEffect d (s.alarms.runs[n]).state
      | none => false

/-- R139: the effect of ALARM n is that of its class, a CAP of the slow cap in both directions, a STOP or a TRIP. -/
def ConsequenceEffects (s : State) : Prop :=
  ∀ m, ∀ e ∈ (s.records.get m).reasons, ∀ n : Fin 64, e.source = .alarm n → ∃ d, s.alarms.defs[n] = some d ∧
    match d.cls with
    | .advisory => False
    | .slow cap => e.effect = .cap cap .both
    | .stop => e.effect = .stop
    | .trip => e.effect = .trip

/-- R141: an alarm carries the first-out mark only while a STOP or TRIP alarm is outside NORMAL. -/
def FirstOutBacked (s : State) : Prop := ∀ n, s.alarms.firstOut = some n → ∃ k, stopTripActive s.alarms k = true

/-- R145: the alarm horn request is the one the alarms give. -/
def HornRequestExact (s : State) : Prop := s.alarms.hornRequest = hornCause s.alarms

/-- R156: the horn grant is the highest active requester's, and the horn runs exactly while there is a grant (R157). -/
def GrantExact (s : State) : Prop :=
  s.ann.grant = highestRequester s ∧ s.ann.gens.horn.running = s.ann.grant.isSome

/-- R158: the beacon generator runs exactly while the beacon request is true. -/
def BeaconExact (s : State) : Prop := s.ann.gens.beacon.running = s.swing.beaconRequest

/-- The position bound of an axis (R25). -/
def Axis.top (a : Axis) : Nat := if Axis.isRope a then 9999 else 3599

/-- R25, R32, R33: positions, bases and marks within the axis's range; a circular accumulator reduced, a rope accumulator
within 32 bits; the jump counter at most 3. -/
def TracksInRange (s : State) : Prop :=
  ∀ a, (s.tracker.axes.get a).pos ≤ Axis.top a ∧ (s.tracker.axes.get a).base ≤ Axis.top a ∧
    (s.axisParams.get a).markPos ≤ Axis.top a ∧ (s.tracker.axes.get a).jumps ≤ 3 ∧
    (Axis.isRope a = true →
      -2147483648 ≤ (s.tracker.axes.get a).acc ∧ (s.tracker.axes.get a).acc ≤ 2147483647) ∧
    (Axis.isRope a = false →
      0 < (s.axisParams.get a).n ∧ 0 ≤ (s.tracker.axes.get a).acc ∧ (s.tracker.axes.get a).acc < (s.axisParams.get a).n)

/-- R41: the history holds eight values; they, y, c, r and the latched input are per mille values. -/
def perMille (x : Int) : Prop := -1000 ≤ x ∧ x ≤ 1000

def ChannelsInRange (s : State) : Prop :=
  ∀ m, (s.channels.get m).history.length = 8 ∧ (∀ x ∈ (s.channels.get m).history, perMille x) ∧
    perMille (s.channels.get m).latched ∧ perMille (s.channels.get m).y ∧ perMille (s.channels.get m).c ∧
    perMille (s.channels.get m).r ∧ (s.channels.get m).peak ≤ 1000 ∧ (s.channels.get m).sats ≤ 65535

/-- R172: at most two frames wait in the monitor buffer. -/
def BufferBounded (s : State) : Prop := s.links.monitor.buffer.length ≤ 2

/-- R174: a CAB_STATUS waits only while another is being sent. -/
def StatusWaitsBehind (s : State) : Prop := s.links.cabWaiting.isSome → s.links.cabSending.isSome

/-- R171: a counter stands at 255 at most. -/
def PortCounters.bounded (k : PortCounters) : Prop :=
  k.runt ≤ 255 ∧ k.long ≤ 255 ∧ k.aborted ≤ 255 ∧ k.badFcs ≤ 255 ∧ k.format ≤ 255

def CountersBounded (s : State) : Prop :=
  s.links.cab.counters.bounded ∧ s.links.drive.counters.bounded ∧ s.links.monitor.counters.bounded ∧
    s.links.monitor.overrun ≤ 255

/-- R6: no motion is named by more than 20 alarms of class SLOW, STOP or TRIP. -/
def LimitKept (s : State) : Prop := overLimit s.alarms.defs = false

/-- R160, R163, R165: the settle timer runs only in CHECK and the test timer only in READY. -/
def ModeTimersInMode (s : State) : Prop :=
  (s.ctl.settleTimer.isSome → s.ctl.mode = .check) ∧ (s.ctl.testTimer.isSome → s.ctl.mode = .ready)

/-- R108, R124, R125, R126: the walk warning is CLEARED exactly while walk is not selected; its timer runs only while it
sounds, its request stands exactly while it sounds, and its validity timer only under the conditions of R125. -/
structure WarningInStep (s : State) : Prop where
  cleared : s.walk.warning = .cleared ↔ s.walk.selection = .deselected
  warnTimer : s.walk.warnTimer.isSome → s.walk.warning = .sounding
  request : s.walk.hornRequest = decide (s.walk.warning = .sounding)
  validTimer : s.walk.validTimer.isSome → validityRuns s = true

/-- R124: the warning timer runs exactly while the warning sounds with the horn granted to it, and grant held says whether
the horn is granted to it. -/
structure WarningNeedsGrant (s : State) : Prop where
  timed : s.walk.warnTimer.isSome ↔ s.walk.warning = .sounding ∧ s.ann.grant = some .walk
  held : s.walk.grantHeld = true ↔ s.ann.grant = some .walk

/-- R125: the validity timer runs exactly while the warning is COMPLETE, walk is selected, both cams are raised and the
walk channel's published reference is 0. -/
def ValidityTimed (s : State) : Prop :=
  s.walk.validTimer.isSome ↔
    s.walk.warning = .complete ∧ s.walk.selection ≠ .deselected ∧ s.walk.left.phase = some .raised ∧
      s.walk.right.phase = some .raised ∧ s.channels.walk.r = 0

/-- R118: the stall timer runs exactly while the stall watch is active. -/
def StallWatched (s : State) : Prop :=
  s.walk.stallTimer.isSome ↔
    s.channels.walk.r ≠ 0 ∧ s.brakes.walk.state = .released ∧ machinePhase s.walk ≠ none ∧ s.links.drive.lost = false ∧
      s.walk.stall = false

/-- R126: the walk reference is non-zero only while walk is selected and the warning stands complete. -/
def WalkWarned (s : State) : Prop :=
  s.channels.walk.r ≠ 0 → walkSelected s.walk = true ∧ s.walk.warning = .complete

/-! ### More laws -/

/-- The interlock reasons that the catalogue of section 1.8 gives a motion. -/
def catalogued : Motion → List Interlock
  | .hoist => [.walkEngaged]
  | .drag => [.walkEngaged]
  | .swing => [.tubLifted, .steerLimit, .plugging]
  | .walk => [.notSelected, .bucketNotGrounded, .swingOutOfWindow, .brakesNotSet, .warningIncomplete]

/-- R2, section 1.8: an interlock reason stands only in a record of its motion. -/
def InterlocksPlaced (s : State) : Prop :=
  ∀ m, ∀ e ∈ (s.records.get m).reasons, ∀ i, e.source = .interlock i → i ∈ catalogued m

/-- R99: the PLUGGING reason stands exactly while the condition does. -/
def PluggingMatches (s : State) : Prop :=
  hasSource s.records.swing.reasons (.interlock .plugging) = s.swing.plugging

/-- What the law of the gate rests on (R62, R73, R161). -/
structure GateLaw (s : State) : Prop where
  timers : ModeTimersInMode s
  notRunning : NotRunningByMode s
  effects : EffectsAsCatalogued s
  gate : GateHolds s
  brakes : ∀ m, s.permit m = .tripped → releaseRequest s m = false

/-- The internal conditions as their owners hold them, in the order of the table of R133. -/
def ownedConditions (s : State) : List Bool :=
  [s.links.cab.lost, s.links.drive.lost,
    s.brakes.hoist.releaseFail, s.brakes.drag.releaseFail, s.brakes.swing.releaseFail, s.brakes.walk.releaseFail,
    s.brakes.hoist.setFail, s.brakes.drag.setFail, s.brakes.swing.setFail, s.brakes.walk.setFail,
    s.hd.tightLine, s.walk.sync, s.walk.stall,
    s.tracker.axes.hoist.jumped, s.tracker.axes.drag.jumped, s.tracker.axes.swing.jumped, s.tracker.axes.camL.jumped,
    s.tracker.axes.camR.jumped, s.hd.hoistOvertravel, s.hd.dragOvertravel]

/-- R133: the alarm processor holds every internal condition as its owner does. -/
def ConditionsHandedOn (s : State) : Prop :=
  ∀ c : Fin 20, s.alarms.internals.getLsbD c.val = (ownedConditions s).getD c.val false

/-- Every internal condition stands as it was last handed to the alarm processor (R133), and WALK_STALL is false: then
no condition changes at an event that only moves alarms and reasons. -/
def ConditionsSettled (s : State) : Prop := ConditionsHandedOn s ∧ s.walk.stall = false

/-- R123: the gate stands as the cams give it; while walk is not selected neither precondition reason stands, and while it
is selected with the gate OPEN each stands exactly while its input is not met. -/
structure PreconditionsMatch (s : State) : Prop where
  gate : s.walk.gate = .opened ↔
    (s.walk.left.phase = some .raised ∧ s.walk.right.phase = some .raised) ∨ machinePhase s.walk = none
  unselected : s.walk.selection = .deselected →
    hasSource s.records.walk.reasons (.interlock .bucketNotGrounded) = false ∧
      hasSource s.records.walk.reasons (.interlock .swingOutOfWindow) = false
  taken : s.walk.selection ≠ .deselected → s.walk.gate = .opened →
    hasSource s.records.walk.reasons (.interlock .bucketNotGrounded) = !s.hd.grounded ∧
      hasSource s.records.walk.reasons (.interlock .swingOutOfWindow) = !s.swing.window

/-! ### The conditions of the alarms (R133, R134, R135) -/

/-- R133, R134: the raw condition of every defined alarm is that of its source; the filtered condition is true only with
it; and the delay timer runs exactly while the raw condition is true and the filtered one is not. -/
structure ConditionsFollowSources (s : State) : Prop where
  raw : ∀ (n : Fin 64) (d : AlarmDef), s.alarms.defs[n] = some d → (s.alarms.runs[n]).raw = rawCondition s.alarms d
  filtered : ∀ (n : Fin 64) (d : AlarmDef), s.alarms.defs[n] = some d →
    (s.alarms.runs[n]).filtered = true → (s.alarms.runs[n]).raw = true
  delayed : ∀ (n : Fin 64) (d : AlarmDef), s.alarms.defs[n] = some d →
    ((s.alarms.runs[n]).delay.isSome ↔ (s.alarms.runs[n]).raw = true ∧ (s.alarms.runs[n]).filtered = false)

/-- R135: a defined alarm is RAISED or HELD exactly while its filtered condition is true. -/
def StatesFollowConditions (s : State) : Prop :=
  ∀ (n : Fin 64) (d : AlarmDef), s.alarms.defs[n] = some d →
    ((s.alarms.runs[n]).filtered = true ↔ (s.alarms.runs[n]).state = .raised ∨ (s.alarms.runs[n]).state = .held)

/-- R131: a TRIP alarm is latching. -/
def TripsLatch (s : State) : Prop :=
  ∀ (n : Fin 64) (d : AlarmDef), s.alarms.defs[n] = some d → d.cls = .trip → d.latching = true

/-! ### The brake sequencers at a DRIVE_FEEDBACK (R67, R69 to R74) -/

/-- Where the sequencer of a motion stands after a DRIVE_FEEDBACK that carries `bit` as its released bit, with what the
other consumers of the frame do to its motion. Demand true after the arrival says that no halt fell on the motion; demand
false before it, that none could begin a release. -/
structure BrakeTaken (m : Motion) (bit : Bool) (s t : State) : Prop where
  set : (s.brakes.get m).state = .set →
    ((s.channels.get m).demand = false → (t.brakes.get m).state = .set) ∧
    ((t.channels.get m).demand = true → bit = false →
      (t.brakes.get m).state = .set ∨ (t.brakes.get m).state = .releasing)
  setting : (s.brakes.get m).state = .setting → bit = true →
    (t.brakes.get m).state = .setting ∧ (t.brakes.get m).setTimer = (s.brakes.get m).setTimer
  confirmed : (s.brakes.get m).state = .setting → bit = false →
    (t.brakes.get m).state ≠ .released ∧ (t.brakes.get m).releaseFail = false ∧ (t.brakes.get m).setFail = false ∧
    ((s.channels.get m).demand = false → (t.brakes.get m).state = .set ∧ (t.brakes.get m).setTimer = none) ∧
    ((t.channels.get m).demand = true → (t.brakes.get m).state = .set ∨ (t.brakes.get m).state = .releasing)
  releasing : (s.brakes.get m).state = .releasing →
    ((t.channels.get m).demand = true → bit = true →
      (t.brakes.get m).state = .released ∧ (t.brakes.get m).releaseTimer = none ∧ (t.brakes.get m).holdTimer = none) ∧
    ((t.channels.get m).demand = true → bit = false →
      (t.brakes.get m).state = .releasing ∧ (t.brakes.get m).releaseTimer = (s.brakes.get m).releaseTimer) ∧
    ((s.channels.get m).demand = true → (t.channels.get m).demand = false → (t.brakes.get m).state ≠ .releasing)
  running : (s.brakes.get m).state = .released → (t.channels.get m).demand = true →
    (t.brakes.get m).state = .released ∧ (t.brakes.get m).holdTimer = none
  rested : (s.brakes.get m).state = .released → s.permit m ≠ .tripped → t.permit m ≠ .tripped →
    let rests := (t.channels.get m).r = 0 ∧ (t.channels.get m).demand = false ∧
      (t.brakes.get m).lastSpeed.natAbs ≤ (s.machine.brakes.get m).vRest
    ((s.machine.brakes.get m).tHold ≠ 0 →
      (t.brakes.get m).state = .released ∧ (¬rests → (t.brakes.get m).holdTimer = none) ∧
      (rests → (t.brakes.get m).holdTimer = some ⟨0, (s.machine.brakes.get m).tHold⟩ ∨
        ((s.brakes.get m).holdTimer ≠ none ∧ (t.brakes.get m).holdTimer = (s.brakes.get m).holdTimer))) ∧
    ((s.machine.brakes.get m).tHold = 0 → (s.brakes.get m).holdTimer = none → rests →
      (t.brakes.get m).state = .setting ∨ (bit = false ∧ (t.brakes.get m).state = .set))
  tripped : (s.brakes.get m).state = .released → s.permit m ≠ .tripped → t.permit m = .tripped →
    (t.brakes.get m).state = .setting ∨ (bit = false ∧ (t.brakes.get m).state = .set)

/-! ### The beginning of a release (R69, R70) -/

/-- R69: the motion wants its brake released, and may move. -/
def ReleaseWanted (s : State) (m : Motion) : Prop :=
  (s.channels.get m).demand = true ∧ (s.permit m = .free ∨ s.permit m = .capped)

/-- R70: the walk brake leaves SET only over three set digging brakes, and each of them only over a set walk brake. -/
def ReleaseLetBy (s : State) (m : Motion) : Prop :=
  if m = .walk then s.brakes.hoist.state = .set ∧ s.brakes.drag.state = .set ∧ s.brakes.swing.state = .set
  else s.brakes.walk.state = .set

/-- R69, R71: no sequencer rests in SET under its release condition, and none is in RELEASING without demand or with its
motion STOPPED or TRIPPED. -/
structure ReleasesFollowDemand (s : State) : Prop where
  begun : ∀ m, (s.brakes.get m).state = .set → ReleaseWanted s m → ¬ReleaseLetBy s m
  wanted : ∀ m, (s.brakes.get m).state = .releasing → ReleaseWanted s m

/-- R153: the lamp generators are never stopped; and a running generator counts its half exactly where its pattern is not
steady, the horn generator's being that of the grant (R156). -/
structure GeneratorsRun (s : State) : Prop where
  lamps : s.ann.gens.fastLamp.running = true ∧ s.ann.gens.slowLamp.running = true
  fast : s.ann.gens.fastLamp.half.isSome = !s.ann.patterns.fast.steady
  slow : s.ann.gens.slowLamp.half.isSome = !s.ann.patterns.slow.steady
  beacon : s.ann.gens.beacon.half.isSome = (s.ann.gens.beacon.running && !s.ann.patterns.beacon.steady)
  horn : s.ann.gens.horn.half.isSome = (match s.ann.grant with
    | none => false
    | some .alarm => !s.ann.patterns.alarm.steady
    | some .walk => !s.ann.patterns.walk.steady
    | some .operator => !s.ann.patterns.operator.steady)

/-! ### The swing supervisor's findings (R96, R98, R99) -/

/-- R98, R99: the plugging condition is that of the last target and speed, and its entry caps the target's direction. -/
structure PluggingFound (s : State) : Prop where
  condition : s.swing.plugging = true ↔
    ((0 < s.swing.target ∧ s.swing.speed < 0) ∨ (s.swing.target < 0 ∧ 0 < s.swing.speed)) ∧
      s.machine.vPlug < s.swing.speed.natAbs
  present : hasSource s.records.swing.reasons (.interlock .plugging) = s.swing.plugging
  entry : ∀ e ∈ s.records.swing.reasons, e.source = .interlock .plugging →
    e.effect = .cap s.machine.plugCap (if 0 < s.swing.target then .pos else .neg)

/-! ### What a command leaves alone -/

/-- What a change of reasons leaves alone, with all that it brings (halts, brakes, alarms, the horn, the walk timers):
`t` agrees with `u` on everything listed. -/
structure AuthorityKept (u t : State) : Prop where
  pending : t.pending = u.pending
  held : t.held = u.held
  zones : t.zones = u.zones
  axisParams : t.axisParams = u.axisParams
  tracker : t.tracker = u.tracker
  machine : t.machine = u.machine
  hd : t.hd = u.hd
  ctl : t.ctl = u.ctl
  links : t.links = u.links
  zoneCaps : ∀ m, (t.records.get m).zonePos = (u.records.get m).zonePos ∧
    (t.records.get m).zoneNeg = (u.records.get m).zoneNeg
  channels : ∀ m, { t.channels.get m with armed := false, demand := false, r := 0, history := [] } =
    { u.channels.get m with armed := false, demand := false, r := 0, history := [] }
  brakes : ∀ m, (t.brakes.get m).lastReleased = (u.brakes.get m).lastReleased ∧
    (t.brakes.get m).lastSpeed = (u.brakes.get m).lastSpeed ∧
    (t.brakes.get m).releaseFail = (u.brakes.get m).releaseFail ∧ (t.brakes.get m).setFail = (u.brakes.get m).setFail
  swing : { t.swing with tubLifted := false, steering := false, beaconRequest := false } =
    { u.swing with tubLifted := false, steering := false, beaconRequest := false }
  walk : { t.walk with walkL := 0, walkR := 0, stall := false, stallTimer := none, stallBase := 0, warnTimer := none,
                       validTimer := none, grantHeld := false } =
    { u.walk with walkL := 0, walkR := 0, stall := false, stallTimer := none, stallBase := 0, warnTimer := none,
                  validTimer := none, grantHeld := false }
  defs : t.alarms.defs = u.alarms.defs
  inputs : t.alarms.driveInputs = u.alarms.driveInputs ∧ t.alarms.cabInputs = u.alarms.cabInputs
  lastButtons : t.alarms.lastButtons = u.alarms.lastButtons
  annunciator : { t.ann with grant := none, gens := u.ann.gens } = { u.ann with grant := none }
  lampGens : t.ann.gens.fastLamp = u.ann.gens.fastLamp ∧ t.ann.gens.slowLamp = u.ann.gens.slowLamp

/-- The motions' tables and the other configuration tables are as they were (R168). -/
structure TablesKept (u t : State) : Prop where
  zones : t.zones = u.zones
  axisParams : t.axisParams = u.axisParams
  params : ∀ m, (t.channels.get m).params = (u.channels.get m).params
  machine : t.machine = u.machine
  phases : t.walk.table = u.walk.table
  defs : t.alarms.defs = u.alarms.defs
  lampMap : t.ann.lampMap = u.ann.lampMap
  patterns : t.ann.patterns = u.ann.patterns

/-! ### Requests -/

/-- The request stands at the head of the buffer of a running part, and no response is being sent (R177). -/
def Takes (dest : Dest) (kind : Byte) (body : List Byte) (s : State) : Prop :=
  s.held = false ∧ s.links.monitor.buffer.head? = some ⟨dest, kind, body⟩ ∧ s.links.monitor.response = none

/-- The part once a request has been answered (R177): a station's response is being sent, and a broadcast has left the
buffer. -/
def answered (dest : Dest) (kind : Byte) (code : ResultCode) (data : List Byte) (s : State) : State :=
  match dest with
  | .station => { s with links := { s.links with monitor := { s.links.monitor with response := some ⟨kind, code, data⟩ } } }
  | .broadcast =>
    { s with links := { s.links with monitor := { s.links.monitor with buffer := s.links.monitor.buffer.tail } } }

/-- R182, with R180: the structure of a table encoding in a TABLE_WRITE, by identifier and argument. -/
structure TableBytesFit (identifier argument : Nat) (enc : List Byte) : Prop where
  channel : identifier = 1 → enc.length = 35 ∧
    ∀ b ∈ (enc.drop 2).take 27, if b.getLsbD 7 then b.getLsbD 5 = false ∧ b.getLsbD 4 = false else b = 0#8
  zones : identifier = 2 → enc ≠ [] ∧
    (argument = 0 ∨ argument = 1 → enc.length = 1 + byteAt enc 0 * 6) ∧
    (argument = 2 → enc.length = 1 + byteAt enc 0 * 7) ∧
    (3 ≤ argument → enc.length = 1 + byteAt enc 0 * 6 ∨ enc.length = 1 + byteAt enc 0 * 7)
  phases : identifier = 3 → enc.length = 36
  alarm : identifier = 4 → enc.length = 11 ∧ (byteAt enc 0 ≠ 0 → byteAt enc 5 < 16)
  lampMap : identifier = 5 → enc ≠ [] ∧ enc.length = 1 + byteAt enc 0
  pattern : identifier = 6 → enc.length = 4
  axis : identifier = 7 → enc.length = 14
  machine : identifier = 8 → enc.length = 62

/-- R182: the body that a request of a known kind needs. -/
structure BodyFits (kind : Byte) (body : List Byte) : Prop where
  none : kind ∈ [0x24#8, 0x26#8, 0x28#8, 0x29#8, 0x32#8] → body.length = 0
  one : kind ∈ [0x23#8, 0x25#8, 0x2A#8, 0x2B#8, 0x2D#8, 0x30#8] → body.length = 1
  two : kind ∈ [0x21#8, 0x22#8] → body.length = 2
  three : kind ∈ [0x2C#8, 0x31#8] → body.length = 3
  go : kind = 0x27#8 → body.length = 8
  holds : kind ∈ [0x2E#8, 0x2F#8] → body.length = 1 ∧ byteAt body 0 < 16
  write : kind = 0x20#8 → 2 ≤ body.length ∧ TableBytesFit (byteAt body 0) (byteAt body 1) (body.drop 2)

/-! ### The completeness of GO (R162) -/

/-- The item is a shortfall of the tables. -/
def ItemShort (s : State) : IncompleteItem → Prop
  | .zonesHoist => s.zones.hoist = []
  | .zonesDrag => s.zones.drag = []
  | .zonesSwing => s.zones.swing = []
  | .walkPhases => s.walk.table = none
  | .unwatched c => ∀ (n : Fin 64) (d : AlarmDef), s.alarms.defs[n] = some d → d.source ≠ .internal c
  | .cls c => (c.val ≤ 9 ∨ 18 ≤ c.val) ∧ ∃ (n : Fin 64) (d : AlarmDef), s.alarms.defs[n] = some d ∧
      d.source = .internal c ∧ d.cls ≠ .stop ∧ d.cls ≠ .trip

/-- The place of an item in the order of examination. -/
def itemPlace : IncompleteItem → Nat
  | .zonesHoist => 0
  | .zonesDrag => 1
  | .zonesSwing => 2
  | .walkPhases => 3
  | .unwatched c => 4 + c.val
  | .cls c => 24 + c.val

/-- A counter of a port as R171 names them; OVERRUN is the monitor port's. -/
def portCounter (s : State) (p : Port) (c : Check) : Nat :=
  let k := match p with
    | .cab => s.links.cab.counters
    | .drive => s.links.drive.counters
    | .monitor => s.links.monitor.counters
  match c with
  | .runt => k.runt
  | .long => k.long
  | .aborted => k.aborted
  | .badFcs => k.badFcs
  | .format => k.format
  | .overrun => match p with
    | .monitor => s.links.monitor.overrun
    | _ => 0

/-- The one counter grew by 1, up to 255, and nothing else changed (R171). -/
structure CountedOnce (p : Port) (c : Check) (s t : State) : Prop where
  counted : portCounter t p c = min (portCounter s p c + 1) 255
  others : ∀ q d, (q, d) ≠ (p, c) → portCounter t q d = portCounter s q d
  rest : { t with links := s.links } = s
  cab : { t.links.cab with counters := s.links.cab.counters } = s.links.cab
  drive : { t.links.drive with counters := s.links.drive.counters } = s.links.drive
  monitor : { t.links.monitor with counters := s.links.monitor.counters, overrun := s.links.monitor.overrun } =
    s.links.monitor
  sent : { t.links with cab := s.links.cab, drive := s.links.drive, monitor := s.links.monitor } = s.links

/-! ### Tables as the part holds them -/

/-- A coefficient record as held: at most three terms, exponents at most 12, in strictly ascending order (R43). -/
def CoeffHeld (c : List Term) : Prop :=
  c.length ≤ 3 ∧ (∀ t ∈ c, t.exp ≤ 12) ∧ c.Pairwise (fun a b => a.exp < b.exp)

/-- R44. -/
structure ChannelHeld (p : ChannelParams) : Prop where
  db : p.db ≤ 200
  gain : CoeffHeld p.gain
  count : p.taps.length = 8
  taps : ∀ c ∈ p.taps, CoeffHeld c
  aUp : 1 ≤ p.aUp ∧ p.aUp ≤ 200
  aDown : 1 ≤ p.aDown ∧ p.aDown ≤ 200
  aStop : 1 ≤ p.aStop ∧ p.aStop ≤ 500

/-- R11, R12. -/
structure ZonesHeld (circular : Bool) (zs : List Zone) : Prop where
  count : 1 ≤ zs.length ∧ zs.length ≤ 8
  caps : ∀ z ∈ zs, z.capPos ≤ 1000 ∧ z.capNeg ≤ 1000
  starts : ∀ z ∈ zs, z.start ≤ if circular then 3599 else 9999
  order : zs.Pairwise (fun a b => a.start < b.start)
  first : circular = false → zs.head?.map Zone.start = some 0
  window : circular = false → ∀ z ∈ zs, z.window = false

/-- R131: TRIP is held latching, and a class with an effect names a motion. -/
structure DefHeld (d : AlarmDef) : Prop where
  cap : ∀ v, d.cls = .slow v → v ≤ 1000
  delay : d.delayOn ≤ 255
  motions : d.cls ≠ .advisory → ∃ m, d.motions.get m = true
  latching : d.cls = .trip → d.latching = true

/-- R152. -/
def PatternHeld (p : Pattern) : Prop := p.onCount ≤ 255 ∧ p.offCount ≤ 255 ∧ p.scale ≤ 7

/-- R149. -/
def LampMapHeld (xs : List (Fin 64)) : Prop := xs.length ≤ 4 ∧ xs.Nodup

/-- R14, R26; the scale fields that the axis's kind does not carry stand at their reset values. -/
structure AxisHeld (a : Axis) (p : AxisParams) : Prop where
  delta : 1 ≤ p.maxDelta ∧ p.maxDelta ≤ 32767
  rope : Axis.isRope a = true → (1 ≤ p.u ∧ p.u ≤ 65535) ∧ (1 ≤ p.v ∧ p.v ≤ 65535) ∧ p.n = 3600
  circle : Axis.isRope a = false → p.u = 1 ∧ p.v = 1 ∧ 3600 ≤ p.n ∧ p.n ≤ 65000
  mark : p.markPos ≤ Axis.markMax a
  lookahead : p.lookahead ≤ Axis.lookaheadMax a
  slope : p.slope ≤ Axis.slopeMax a

/-- The six boundaries of a phase table, from b0 (R110). -/
def PhaseTable.bounds (t : PhaseTable) : List Nat := t.rows.map PhaseRow.bound

/-- The six phase lengths, each boundary less the one before it, modulo 3600 (R110). -/
def PhaseTable.turn (t : PhaseTable) : List Int :=
  List.zipWith (fun a b : Nat => ((b : Int) - a) % 3600) t.bounds (t.bounds.tail ++ t.bounds.take 1)

/-- R110: the six lengths are at least 10 and make one turn. -/
structure PhasesHeld (t : PhaseTable) : Prop where
  fields : ∀ r ∈ t.rows, r.bound ≤ 3599 ∧ r.capPos ≤ 1000 ∧ r.capNeg ≤ 1000
  lengths : ∀ l ∈ t.turn, 10 ≤ l
  total : t.turn.sum = 3600

/-- R68, of one motion. -/
def BrakeParamsHeld (p : BrakeParams) : Prop :=
  (10 ≤ p.tRel ∧ p.tRel ≤ 500) ∧ (10 ≤ p.tSet ∧ p.tSet ≤ 500) ∧ p.tHold ≤ 1000 ∧ p.vRest ≤ 100

/-- R68, R80, R95, R109. -/
structure MachineHeld (p : MachineParams) : Prop where
  brakes : ∀ m, BrakeParamsHeld (p.brakes.get m)
  supervisor : p.tlTorque ≤ 1000 ∧ p.hoistTopLimit ≤ 9999 ∧ p.dragInLimit ≤ 9999 ∧ p.groundPayout ≤ 9999 ∧
    p.slackTorque ≤ 1000
  swing : p.vPlug ≤ 1000 ∧ (1 ≤ p.plugCap ∧ p.plugCap ≤ 1000) ∧ p.steerCap ≤ 200
  sync : p.syncTol ≤ 100 ∧ p.syncTol ≤ p.syncFault ∧ p.syncFault ≤ 300 ∧ p.kTrim ≤ 50
  walk : (50 ≤ p.stallTime ∧ p.stallTime ≤ 1000) ∧ (100 ≤ p.warnTime ∧ p.warnTime ≤ 3000) ∧
    (1000 ≤ p.warnValid ∧ p.warnValid ≤ 60000) ∧ p.creepCap ≤ 200

/-- The terms that the three bytes of a coefficient record carry, in the order carried (R182). -/
def carriedTerms (bytes : List Byte) : List Term :=
  ((bytes.take 3).filter (fun b => b.getLsbD 7)).map (fun b => ⟨b.getLsbD 6, b.toNat % 16⟩)

/-! ### Zones and phases where a position stands (R11, R12, R17, R18, R111) -/

/-- The last payout or angle of the zone at place `i` (R11, R12). -/
def zoneEnd (circular : Bool) (zs : List Zone) (i : Nat) : Nat :=
  if circular then (((zs[i + 1]?.or zs[0]?).map Zone.start).getD 0 + 3599) % 3600
  else match zs[i + 1]? with
    | some z => z.start - 1
    | none => 9999

/-- The zone at place `i` of a table runs from `first` to `last` and contains `x` (R11, R12). -/
def zoneContains (first last x : Nat) : Prop := if first ≤ last then first ≤ x ∧ x ≤ last else first ≤ x ∨ x ≤ last

/-- The zone from `first` to `last` may be reached from `x` in a direction, at a distance (R17, R18). -/
def ZoneReached (circular : Bool) (lookahead x : Nat) (d : Dir) (first last dist : Nat) : Prop :=
  (zoneContains first last x ∧ dist = 0) ∨
    (¬zoneContains first last x ∧ dist ≤ lookahead ∧
      match circular, d with
      | false, .pos => last < x ∧ dist = x - last
      | false, .neg => x < first ∧ dist = first - x
      | true, .pos => (dist : Int) = ((first : Int) - x) % 3600
      | true, .neg => (dist : Int) = ((x : Int) - last) % 3600)

/-- The phase at place `i` of the table, counted from RAISED, contains an angle (R110, R111). -/
def PhaseContains (t : PhaseTable) (i : Fin 6) (angle : Nat) : Prop :=
  ((angle : Int) - (t.bounds.getD i.val 0 : Nat)) % 3600 < t.turn.getD i.val 0

/-- R96: the walk window is open where the swing axis is REFERENCED in a zone that has the flag. -/
def WindowFound (s : State) : Prop :=
  s.swing.window = true ↔ s.tracker.axes.swing.referenced = true ∧
    ∃ i z, s.zones.swing[i]? = some z ∧ z.window = true ∧
      zoneContains z.start (zoneEnd true s.zones.swing i) s.tracker.axes.swing.pos

/-! ### The cams (R111, R112, R113, R116) -/

/-- R111, R113: a cam has the phase that contains its angle, or, with its axis UNREFERENCED or an empty table, neither a
phase nor a last progress. -/
structure CamStands (table : Option PhaseTable) (track : Track) (cam : Cam) : Prop where
  unknown : table = none ∨ track.referenced = false → cam.phase = none ∧ cam.progress = none
  known : ∀ t, table = some t → track.referenced = true →
    ∃ i : Fin 6, PhaseContains t i track.pos ∧ cam.phase.map Phase.code = some i.val

/-- R111, R112, R113: both cams stand where the tracker has them; D is the wrapped difference of their angles, undefined
with both pendings NONE where a cam has no phase; and the machine phase is that of the lagging cam. -/
structure CamsStand (s : State) : Prop where
  left : CamStands s.walk.table s.tracker.axes.camL s.walk.left
  right : CamStands s.walk.table s.tracker.axes.camR s.walk.right
  undefined : s.walk.left.phase = none ∨ s.walk.right.phase = none →
    s.walk.diff = none ∧ s.walk.left.pending = .none ∧ s.walk.right.pending = .none ∧ machinePhase s.walk = none
  defined : s.walk.left.phase ≠ none → s.walk.right.phase ≠ none →
    ∃ d, s.walk.diff = some d ∧ -1800 ≤ d ∧ d ≤ 1799 ∧
      (d - ((s.tracker.axes.camL.pos : Int) - s.tracker.axes.camR.pos)) % 3600 = 0 ∧
      machinePhase s.walk = if 0 ≤ d then s.walk.right.phase else s.walk.left.phase

/-- The walk phase table, where there is one, is held (R110), and the last progresses lie on the circle (R108). -/
structure WalkTableHeld (s : State) : Prop where
  table : ∀ t, s.walk.table = some t → PhasesHeld t
  left : ∀ p, s.walk.left.progress = some p → p ≤ 3599
  right : ∀ p, s.walk.right.progress = some p → p ≤ 3599

/-- A progress lies in the phase at place `i` of the table (R111). -/
def ProgressIn (t : PhaseTable) (i : Fin 6) (p : Nat) : Prop := PhaseContains t i (p + t.raised.bound)

/-- R116: what a cam's completion at an arrival makes of its pending: a crossing of the boundary of RAISING and RAISED in
the direction of the accepted delta is taken up, or withdraws the opposite one. -/
structure CamCompletes (t : PhaseTable) (last : Option Nat) (delta : Option Int) (new : Option Phase)
    (before after : Pending) : Prop where
  forward : (∃ p d, last = some p ∧ delta = some d ∧ 0 < d ∧ ProgressIn t 5 p ∧ new = some .raised) →
    after = if before = .reverse then .none else .forward
  reverse : (∃ p d, last = some p ∧ delta = some d ∧ d < 0 ∧ ProgressIn t 0 p ∧ new = some .raising) →
    after = if before = .forward then .none else .reverse
  other : ¬(∃ p d, last = some p ∧ delta = some d ∧ 0 < d ∧ ProgressIn t 5 p ∧ new = some .raised) →
    ¬(∃ p d, last = some p ∧ delta = some d ∧ d < 0 ∧ ProgressIn t 0 p ∧ new = some .raising) → after = before

/-- R111, R116: a cam's last progress after an arrival is that of its angle, and absent where it has no phase. -/
structure ProgressTaken (t : PhaseTable) (angle : Nat) (cam : Cam) : Prop where
  absent : cam.phase = none → cam.progress = none
  present : cam.phase ≠ none →
    ∃ p : Nat, cam.progress = some p ∧ p ≤ 3599 ∧ ((p : Int) - ((angle : Int) - t.raised.bound)) % 3600 = 0

/-- R118: the progress of the lagging cam, before it is reduced modulo 3600. -/
def laggingTurn (s : State) (t : PhaseTable) (d : Int) : Int :=
  ((if 0 ≤ d then s.tracker.axes.camR.pos else s.tracker.axes.camL.pos : Nat) : Int) - t.raised.bound

/-! ### Rounding (R43, R51, R52) -/

/-- The value of a coefficient record in units of 1/4096 (R43). -/
def unitsOf (c : List Term) : Int :=
  (c.map (fun t => (if t.minus then (-1 : Int) else 1) * ((2 ^ (12 - t.exp) : Nat) : Int))).sum

/-- `q` is a number of units of 1/4096 rounded to the nearest integer, ties away from zero (R51, R52). -/
def RoundedUnits (units q : Int) : Prop :=
  2 * (4096 * q - units).natAbs ≤ 4096 ∧ (2 * (4096 * q - units).natAbs = 4096 → units.natAbs < (4096 * q).natAbs)

/-- `q` is a number of units rounded and limited to the per mille range, as a gain or filter stage does (R51, R52). -/
def RoundedLimited (units q : Int) : Prop := ∃ x, RoundedUnits units x ∧ q = limitInt (-1000) 1000 x

/-- `x` is `r` moved toward `c` by at most `step` (R57). -/
def Moved (r c : Int) (step : Nat) (x : Int) : Prop :=
  ((c - r).natAbs ≤ step → x = c) ∧ (step < (c - r).natAbs → x = r + (c - r).sign * step)

/-! ### The resets (R167, R168) -/

/-- Every block stands at its reset values, whatever the kind of reset; the alarm counts and the trip record apart. -/
structure StandsReset (cause : ResetCause) (straps : Fin 16) (t : State) : Prop where
  mode : t.ctl = { mode := .config, check := .none, figures := ⟨0, 0, 0, 0⟩, settleTimer := none, feedbackSeen := false,
                   testTimer := none, resetCause := cause, time := 0#32 }
  zones : t.zones = ⟨[], [], []⟩
  axisParams : ∀ a, t.axisParams.get a = AxisParams.fresh
  machine : t.machine = MachineParams.fresh
  phases : t.walk.table = none
  records : t.records = (State.fresh cause straps).records
  tracker : (∀ a, t.tracker.axes.get a = Track.fresh) ∧ t.tracker.countsBased = false
  channels : ∀ m, t.channels.get m = Channel.fresh
  brakes : ∀ m, t.brakes.get m = Brake.fresh
  hd : t.hd = HoistDrag.fresh
  swing : t.swing = SwingSup.fresh
  walk : t.walk = Walk.fresh
  slots : ∀ n : Fin 64, t.alarms.defs[n] = none ∧ { t.alarms.runs[n] with count := 0 } = AlarmRun.fresh
  alarms : t.alarms.active = [] ∧ t.alarms.firstOut = none ∧ t.alarms.silence = false ∧ t.alarms.hornRequest = false ∧
    t.alarms.internals = 0#20 ∧ t.alarms.driveInputs = none ∧ t.alarms.cabInputs = none ∧ t.alarms.lastButtons = none
  annunciator : t.ann = Annunciator.fresh
  links : t.links = Links.fresh straps

/-- The occurrence counts and the trip record survive (R168). -/
def RecordsSurvive (s t : State) : Prop :=
  (∀ n : Fin 64, (t.alarms.runs[n]).count = (s.alarms.runs[n]).count) ∧ t.alarms.trip = s.alarms.trip

/-! ### What a CAB_STATUS carries (R174, R180, R181) -/

/-- The code of a named value is its place in the list of R180. -/
def codeIn {α : Type} [DecidableEq α] (names : List α) (x : α) : Byte := byteOf (names.idxOf x)

/-- The kind and id of a primary cause (R180). -/
def causeCarried : Option Source → List Byte
  | none => [0x00#8, 0xFF#8]
  | some (.alarm n) => [0x01#8, byteOf n.val]
  | some (.hold h) => [0x02#8, codeIn [Master.cab, .drive, .monitor] h]
  | some (.interlock i) => [0x03#8, codeIn [Interlock.walkEngaged, .tubLifted, .steerLimit, .plugging, .notSelected,
      .bucketNotGrounded, .swingOutOfWindow, .brakesNotSet, .warningIncomplete] i]
  | some .notRunning => [0x04#8, 0x00#8]

/-- The block of ten bytes of a motion. -/
def motionCarried (s : State) (m : Motion) : List Byte :=
  [codeIn [Permit.free, .capped, .stopped, .tripped] (s.permit m)] ++
    causeCarried (primaryCause (s.records.get m).reasons) ++
    le16 (effectiveCap (s.records.get m) .pos) ++ le16 (effectiveCap (s.records.get m) .neg) ++
    si16 (s.channels.get m).r ++ [codeIn [BrakeState.set, .releasing, .released, .setting] (s.brakes.get m).state]

/-- The 64 bytes of a CAB_STATUS hold the state from which it was formed. -/
structure StatusCarries (s : State) (body : List Byte) : Prop where
  length : body.length = 64
  mode : body.take 1 = [codeIn [Mode.config, .check, .ready, .lockout] s.ctl.mode]
  hoist : (body.drop 1).take 10 = motionCarried s .hoist
  drag : (body.drop 11).take 10 = motionCarried s .drag
  swing : (body.drop 21).take 10 = motionCarried s .swing
  walk : (body.drop 31).take 10 = motionCarried s .walk
  axes : ∀ (i : Fin 5) (a : Axis), [Axis.hoist, .drag, .swing, .camL, .camR][i]? = some a →
    (body.drop (41 + 3 * i.val)).take 3 =
      le16 (s.tracker.axes.get a).pos ++ [if (s.tracker.axes.get a).referenced then 1#8 else 0#8]
  walking : (body.drop 56).take 4 =
    [codeIn [Selection.deselected, .selected, .deselectPending] s.walk.selection,
      codeIn [some Phase.raised, some .lowering, some .lifting, some .stepping, some .settingDown, some .raising, none]
        (machinePhase s.walk)] ++ si16 s.walk.steps
  alarms :
    let unseen (n : Fin 64) : Bool := decide ((s.alarms.runs[n]).state = .raised ∨ (s.alarms.runs[n]).state = .returned)
    body.drop 60 =
      [byteOf s.alarms.active.length, byteOf (s.alarms.active.filter unseen).length,
        ((s.alarms.active.filter (fun n => unseen n && (s.alarms.runs[n]).shelvedUntil.isNone)).getLast?.map
          (fun n => byteOf n.val)).getD 0xFF#8,
        codeIn [none, some Requester.alarm, some .walk, some .operator] s.ann.grant]

/-! ### What the monitor reads (R24, R40, R66, R78, R92, R107, R128, R142, R147, R159, R169, R180, R182)

The grouping inside a part, where the owning rule's list leaves it open, and the argument "none" as 0xFF are the model's
reading (log entries 11 and 16). -/

/-- A timer's elapsed time, a stopped one as 0xFFFF. -/
def elapsedCarried (t : Option Timer) : List Byte := le16 ((t.map Timer.elapsed).getD 0xFFFF)

/-- An entry of a reason set. -/
def entryCarried (e : Reason) : List Byte :=
  causeCarried (some e.source) ++ match e.effect with
    | .cap v d => [0x00#8, codeIn [CapDir.pos, .neg, .both] d] ++ le16 v
    | .stop => [0x01#8, 0xFF#8, 0xFF#8, 0xFF#8]
    | .trip => [0x02#8, 0xFF#8, 0xFF#8, 0xFF#8]

/-- Part 0: the record of a motion, with up to 17 entries from an index. -/
def recordCarried (s : State) (m : Motion) (index : Nat) : List Byte :=
  let r := s.records.get m
  [byteOf r.reasons.length, codeIn [Permit.free, .capped, .stopped, .tripped] (s.permit m)] ++
    causeCarried (primaryCause r.reasons) ++ le16 r.zonePos ++ le16 r.zoneNeg ++ le16 (effectiveCap r .pos) ++
    le16 (effectiveCap r .neg) ++ ((r.reasons.drop index).take 17).flatMap entryCarried

/-- Part 1: each axis, a rope axis with four bytes of accumulator and OVER_RANGE; then the counts-based flag. -/
def trackerCarried (s : State) : List Byte :=
  [Axis.hoist, .drag, .swing, .camL, .camR].flatMap (fun a =>
    let x := s.tracker.axes.get a
    let rope := decide (a = .hoist ∨ a = .drag)
    le16 x.pos ++ [bit8 x.referenced] ++ le16 x.lastRaw ++ (if rope then si32 x.acc else si16 x.acc) ++ le16 x.base ++
      [byteOf x.jumps, bit8 x.jumped] ++ (if rope then [bit8 x.overRange] else [])) ++ [bit8 s.tracker.countsBased]

/-- Part 2: each channel. -/
def channelsCarried (s : State) : List Byte :=
  [Motion.hoist, .drag, .swing, .walk].flatMap (fun m =>
    let c := s.channels.get m
    si16 c.latched ++ [bit8 c.armed] ++ si16 c.y ++ si16 c.c ++ si16 c.r ++ [bit8 c.demand] ++ le16 c.peak ++ le16 c.sats)

/-- Part 3: each brake sequencer, with the timer of its state. -/
def brakesCarried (s : State) : List Byte :=
  [Motion.hoist, .drag, .swing, .walk].flatMap (fun m =>
    let b := s.brakes.get m
    let timer : Option Timer := match b.state with
      | .set => none
      | .releasing => b.releaseTimer
      | .setting => b.setTimer
      | .released => b.holdTimer
    let name : Byte := if timer = none then 0xFF#8
      else codeIn [BrakeState.releasing, .setting, .released] b.state
    [codeIn [BrakeState.set, .releasing, .released, .setting] b.state] ++ elapsedCarried timer ++
      [name, bit8 b.lastReleased] ++ si16 b.lastSpeed ++ [bit8 b.releaseFail, bit8 b.setFail])

/-- Part 4: the hoist-drag and swing supervisors. -/
def supervisorsCarried (s : State) : List Byte :=
  si16 s.hd.hoistTorque ++ si16 s.hd.dragTorque ++
    [s.hd.tightLine, s.hd.hoistOvertravel, s.hd.dragOvertravel, s.hd.grounded, s.hd.evaluated].map bit8 ++
    si16 s.swing.speed ++ si16 s.swing.target ++
    [s.swing.plugging, s.swing.window, s.swing.tubLifted, s.swing.steering, s.swing.beaconRequest].map bit8

/-- A phase, with UNKNOWN or none last. -/
def phaseCarried (x : Option Phase) : Byte :=
  codeIn [some Phase.raised, some .lowering, some .lifting, some .stepping, some .settingDown, some .raising, none] x

/-- Part 5: the walk sequencer. -/
def walkCarried (s : State) : List Byte :=
  let w := s.walk
  let cam (c : Cam) : List Byte :=
    [phaseCarried c.phase] ++ le16 (c.progress.getD 0xFFFF) ++ [codeIn [Pending.none, .forward, .reverse] c.pending]
  cam w.left ++ cam w.right ++ si16 (w.diff.getD (-32768)) ++
    [phaseCarried (machinePhase w), bit8 (decide (w.left.phase = some .raised ∧ w.right.phase = some .raised))] ++
    si16 w.walkL ++ si16 w.walkR ++ [bit8 w.sync, bit8 w.stall] ++ elapsedCarried w.stallTimer ++ si16 w.steps ++
    [codeIn [Selection.deselected, .selected, .deselectPending] w.selection, (w.lastSelect.map bit8).getD 0xFF#8,
      codeIn [Warning.cleared, .sounding, .complete] w.warning] ++
    elapsedCarried w.warnTimer ++ elapsedCarried w.validTimer ++
    [bit8 w.hornRequest, bit8 w.grantHeld, codeIn [Gate.opened, .closed] w.gate, bit8 s.hd.grounded, bit8 s.swing.window]

/-- Part 6: the silence flag, the alarm horn request, and sixteen slots of four bytes. -/
def slotsCarried (s : State) (group : Nat) : List Byte :=
  [bit8 s.alarms.silence, bit8 s.alarms.hornRequest] ++
    ((s.alarms.runs.toList.drop (16 * group)).take 16).flatMap (fun r =>
      [byteOf ((if r.raw then 1 else 0) + (if r.filtered then 2 else 0))] ++ elapsedCarried r.delay ++ [byteOf r.count])

/-- The horn grant. -/
def grantCarried (g : Option Requester) : Byte := codeIn [none, some Requester.alarm, some .walk, some .operator] g

/-- Part 7: the annunciator. -/
def annunciatorCarried (s : State) : List Byte :=
  (List.finRange 48).map (fun lamp => codeIn [LampState.off, .steady, .slow, .fast] (lampState s lamp)) ++
    [bit8 s.ann.lampTest, bit8 s.ann.lampDark, bit8 s.alarms.hornRequest, bit8 s.walk.hornRequest,
      bit8 s.ann.operatorRequest, grantCarried s.ann.grant, bit8 s.swing.beaconRequest, bit8 (hornOutput s),
      bit8 (beaconOutput s)]

/-- The three bytes of a check result. -/
def checkCarried : CheckResult → List Byte
  | .none => [0x00#8, 0xFF#8, 0xFF#8]
  | .checking => [0x01#8, 0xFF#8, 0xFF#8]
  | .passed => [0x02#8, 0xFF#8, 0xFF#8]
  | .aborted => [0x03#8, 0xFF#8, 0xFF#8]
  | .tableIncomplete .zonesHoist => [0x04#8, 0x00#8, 0xFF#8]
  | .tableIncomplete .zonesDrag => [0x04#8, 0x01#8, 0xFF#8]
  | .tableIncomplete .zonesSwing => [0x04#8, 0x02#8, 0xFF#8]
  | .tableIncomplete .walkPhases => [0x04#8, 0x03#8, 0xFF#8]
  | .tableIncomplete (.unwatched c) => [0x04#8, 0x04#8, byteOf c.val]
  | .tableIncomplete (.cls c) => [0x04#8, 0x05#8, byteOf c.val]
  | .arithmeticFault => [0x05#8, 0xFF#8, 0xFF#8]
  | .checkMismatch m => [0x06#8, codeIn [Motion.hoist, .drag, .swing, .walk] m, 0xFF#8]
  | .brakesNotConfirmed => [0x07#8, 0xFF#8, 0xFF#8]
  | .driveLinkDown => [0x08#8, 0xFF#8, 0xFF#8]

/-- Part 8: the mode controller. -/
def modeCarried (s : State) : List Byte :=
  [codeIn [Mode.config, .check, .ready, .lockout] s.ctl.mode] ++ checkCarried s.ctl.check ++
    le16 s.ctl.figures.hoist ++ le16 s.ctl.figures.drag ++ le16 s.ctl.figures.swing ++ le16 s.ctl.figures.walk ++
    elapsedCarried s.ctl.settleTimer ++ [codeIn [ResetCause.powerOn, .line, .restart] s.ctl.resetCause] ++
    le32 s.ctl.time.toNat

/-- What a STATUS_READ carries, or none where its part or argument is out of range. -/
def statusCarried (s : State) (part argument : Nat) : Option (List Byte) :=
  if part = 0 then
    if argument / 4 ≤ 29 then
      ([Motion.hoist, .drag, .swing, .walk][argument % 4]?).map (fun m => recordCarried s m (argument / 4))
    else none
  else if part = 6 then if argument ≤ 3 then some (slotsCarried s argument) else none
  else if argument = 0xFF then
    [(1, trackerCarried s), (2, channelsCarried s), (3, brakesCarried s), (4, supervisorsCarried s), (5, walkCarried s),
      (7, annunciatorCarried s), (8, modeCarried s)].lookup part
  else none

/-- An entry of the active alarm list, 12 bytes. -/
def alarmCarried (a : AlarmProc) (n : Fin 64) : List Byte :=
  let r := a.runs[n]
  let flags := (if a.firstOut = some n then 1 else 0) + (if r.lastRaise.isSome then 2 else 0) +
    (if r.shelvedUntil.isSome then 4 else 0)
  [byteOf n.val, codeIn [AlarmState.normal, .raised, .held, .returned, .latched] r.state, byteOf r.count, byteOf flags] ++
    le32 ((r.lastRaise.map BitVec.toNat).getD 0xFFFFFFFF) ++ le32 ((r.shelvedUntil.map BitVec.toNat).getD 0xFFFFFFFF)

/-- The trip record, 24 bytes, or one byte where there is none. -/
def tripCarried : Option TripRecord → List Byte
  | none => [0x00#8]
  | some t => [0x01#8, byteOf t.alarm.val] ++ le32 t.time.toNat ++
      si16 t.refs.hoist ++ si16 t.refs.drag ++ si16 t.refs.swing ++ si16 t.refs.walk ++
      le16 t.positions.hoist ++ le16 t.positions.drag ++ le16 t.positions.swing ++ le16 t.positions.camL ++
      le16 t.positions.camR

/-- The table that a TABLE_READ carries, or none where its identifier or argument is out of range (R179, R180). -/
def tableCarried (s : State) (identifier argument : Nat) : Option (List Byte) :=
  match identifier with
  | 1 => ([Motion.hoist, .drag, .swing, .walk][argument]?).map (fun m => encodeChannel (s.channels.get m).params)
  | 2 => [encodeZones false s.zones.hoist, encodeZones false s.zones.drag, encodeZones true s.zones.swing][argument]?
  | 3 => if argument = 0xFF then some (encodePhases s.walk.table) else none
  | 4 => (s.alarms.defs[argument]?).map encodeAlarmDef
  | 5 => (s.ann.lampMap[argument]?).map encodeLampMap
  | 6 => ([s.ann.patterns.alarm, s.ann.patterns.walk, s.ann.patterns.operator, s.ann.patterns.beacon,
      s.ann.patterns.fast, s.ann.patterns.slow][argument]?).map encodePattern
  | 7 => ([Axis.hoist, .drag, .swing, .camL, .camR][argument]?).map (fun a => encodeAxis a (s.axisParams.get a))
  | 8 => if argument = 0xFF then some (encodeMachine s.machine) else none
  | _ => none

/-- The bytes of the table encodings (R182). -/
structure EncodingsCarry : Prop where
  coefficient : ∀ c : List Term, encodeCoeff c = (c.map (fun t => byteOf (0x80 + (if t.minus then 0x40 else 0) + t.exp)) ++
    [0x00#8, 0x00#8, 0x00#8]).take 3
  channel : ∀ p, encodeChannel p =
    le16 p.db ++ encodeCoeff p.gain ++ p.taps.flatMap encodeCoeff ++ le16 p.aUp ++ le16 p.aDown ++ le16 p.aStop
  zones : ∀ circular zs, encodeZones circular zs = byteOf zs.length :: zs.flatMap (fun z =>
    le16 z.start ++ le16 z.capPos ++ le16 z.capNeg ++ if circular then [bit8 z.window] else [])
  phases : ∀ t, encodePhases (some t) =
    [t.raised, t.lowering, t.lifting, t.stepping, t.settingDown, t.raising].flatMap (fun r =>
      le16 r.bound ++ le16 r.capPos ++ le16 r.capNeg)
  noPhases : encodePhases none = []
  alarm : ∀ d, encodeAlarmDef (some d) = [0x01#8] ++
    (match d.source with
      | .internal c => [0x00#8, byteOf c.val]
      | .driveInput i => [0x01#8, byteOf i.val]
      | .cabInput i => [0x02#8, byteOf i.val]) ++
    [codeIn [AlarmPolarity.activeTrue, .activeFalse] d.polarity] ++
    (match d.cls with
      | .advisory => [0x00#8, motionSetByte d.motions, 0x00#8, 0x00#8]
      | .slow cap => [0x01#8, motionSetByte d.motions] ++ le16 cap
      | .stop => [0x02#8, motionSetByte d.motions, 0x00#8, 0x00#8]
      | .trip => [0x03#8, motionSetByte d.motions, 0x00#8, 0x00#8]) ++ [byteOf d.delayOn, bit8 d.latching, bit8 d.horn]
  noAlarm : encodeAlarmDef none = List.replicate 11 0x00#8
  lampMap : ∀ xs : List (Fin 64), encodeLampMap xs = byteOf xs.length :: xs.map (fun n => byteOf n.val)
  pattern : ∀ p, encodePattern p = [byteOf p.onCount, byteOf p.offCount, byteOf p.scale, bit8 p.steady]
  axis : ∀ a p, encodeAxis a p = [codeIn [Polarity.normal, .inverted] p.polarity] ++ le16 p.maxDelta ++
    (if a = .hoist ∨ a = .drag then le16 p.u ++ le16 p.v ++ [0x00#8, 0x00#8] else
      [0x00#8, 0x00#8, 0x00#8, 0x00#8] ++ le16 p.n) ++ le16 p.markPos ++ le16 p.lookahead ++ [byteOf p.slope]
  machine : ∀ p, encodeMachine p =
    [p.brakes.hoist, p.brakes.drag, p.brakes.swing, p.brakes.walk].flatMap (fun b =>
      le16 b.tRel ++ le16 b.tSet ++ le16 b.tHold ++ le16 b.vRest) ++
    [p.tlTorque, p.hoistTopLimit, p.dragInLimit, p.groundPayout, p.slackTorque, p.vPlug, p.plugCap, p.steerCap,
      p.syncTol, p.syncFault, p.kTrim, p.stallTime, p.warnTime, p.warnValid, p.creepCap].flatMap le16
  motions : ∀ x : PerMotion Bool, ∀ i : Fin 4, (motionSetByte x).getLsbD i.val = x.get ([Motion.hoist, .drag, .swing, .walk][i])

/-! ### What an arrival makes of an axis (R27 to R34) -/

/-- A rising edge of the reference bit, taken with counts based (R34). -/
def risesOn (based bit : Bool) (old : Track) : Bool := based && bit && !old.lastRef

/-- The tracking state of an axis after an arrival, rule by rule: a mark references it (R34); counts not based leave the
position and clear the jump counter (R28); an accepted delta is accumulated (R32, R33); the third rejection loses the
reference (R30, R31). -/
structure TrackedArrival (a : Axis) (p : AxisParams) (based : Bool) (raw : Nat) (bit : Bool) (old new : Track) : Prop where
  last : new.lastRaw = raw ∧ new.lastRef = bit
  mark : risesOn based bit old = true →
    new.acc = 0 ∧ new.base = p.markPos ∧ new.pos = p.markPos ∧ new.referenced = true ∧ new.jumps = 0 ∧
      new.jumped = false ∧ new.overRange = false
  rebased : based = false → new = { old with jumps := 0, lastRaw := raw, lastRef := bit }
  acceptedRope : risesOn based bit old = false → based = true → Axis.isRope a = true →
    (rawDelta p old.lastRaw raw).natAbs ≤ p.maxDelta →
    new.acc = limitInt (-2147483648) 2147483647 (old.acc + rawDelta p old.lastRaw raw) ∧ new.base = old.base ∧
      (new.pos : Int) = limitInt 0 9999 (old.base + (new.acc * p.u).fdiv p.v) ∧
      new.overRange = decide (old.base + (new.acc * p.u).fdiv p.v ≠ (new.pos : Int)) ∧
      new.referenced = old.referenced ∧ new.jumped = old.jumped ∧ new.jumps = 0
  acceptedCircle : risesOn based bit old = false → based = true → Axis.isRope a = false → 0 < p.n →
    (rawDelta p old.lastRaw raw).natAbs ≤ p.maxDelta →
    new.acc = (old.acc + rawDelta p old.lastRaw raw) % p.n ∧ new.base = old.base ∧
      (new.pos : Int) = ((old.base : Int) + (new.acc * 3600).fdiv p.n) % 3600 ∧
      new.overRange = old.overRange ∧ new.referenced = old.referenced ∧ new.jumped = old.jumped ∧ new.jumps = 0
  rejected : risesOn based bit old = false → based = true → p.maxDelta < (rawDelta p old.lastRaw raw).natAbs →
    new.acc = old.acc ∧ new.base = old.base ∧ new.pos = old.pos ∧ new.overRange = old.overRange ∧
      new.jumps = (if old.jumps < 3 then old.jumps + 1 else old.jumps) ∧
      new.referenced = (old.referenced && decide (old.jumps ≠ 2)) ∧ new.jumped = (old.jumped || decide (old.jumps = 2))

end Sys2Proof.Machine
end

