-- ==== Sys2Proof/WellFormed.lean ====
section
/-! DEFINITION. The commands that the links and the timers can bring: the frame lengths of R170 and R181, the structure
that R178 and R182 ask of a request taken under its own row, and the one frame that the line of a failed check ends
(R170, R171). -/

namespace Sys2Proof
open Sys2Proof.Machine

/-- A body that a frame can carry (R170). -/
def bodyFits (body : List Byte) : Bool := decide (body.length ≤ maxBody)

/-- A request of a kind whose body has the length and structure of that kind (R182). -/
def requestWellFormed (kind : Byte) (body : List Byte) : Bool := bodyFits body && requestFits kind body

/-- A TABLE_WRITE under its table's row: its identifier is that table's, or an unknown one (R179). -/
def writeWellFormed (identifier : Nat) (body : List Byte) : Bool :=
  requestWellFormed 0x20#8 body &&
    (decide (writeIdentifier body = identifier) || !knownTable (writeIdentifier body))

/-- The well-formed commands. -/
def Instr.wellFormed : Instr → Bool
  | .powerOn _ => true
  | .lineResetAssert _ => true
  | .lineResetRelease => true
  | .machineTimeTick => true
  | .cabCommand body => decide (body.length = cabCommandLength)
  | .driveFeedback body => decide (body.length = driveFeedbackLength)
  | .frameCheckFailed _ line => decide ((framesOn line).length = 1)
  | .monitorFrameReceived _ _ body => bodyFits body
  | .monitorResponseSent _ => true
  | .unknownKind _ kind body => bodyFits body && !knownKind kind
  | .badFormat _ kind body => bodyFits body && knownKind kind && !requestFits kind body
  | .tableWriteChannel _ body => writeWellFormed 1 body
  | .tableWriteZones _ body => writeWellFormed 2 body
  | .tableWriteWalkPhases _ body => writeWellFormed 3 body
  | .tableWriteAlarmDef _ body => writeWellFormed 4 body
  | .tableWriteLampMap _ body => writeWellFormed 5 body
  | .tableWritePattern _ body => writeWellFormed 6 body
  | .tableWriteAxis _ body => writeWellFormed 7 body
  | .tableWriteMachine _ body => writeWellFormed 8 body
  | .tableRead _ body => requestWellFormed 0x21#8 body
  | .statusRead _ body => requestWellFormed 0x22#8 body
  | .alarmListRead _ body => requestWellFormed 0x23#8 body
  | .tripRecordRead _ body => requestWellFormed 0x24#8 body
  | .peakRead _ body => requestWellFormed 0x25#8 body
  | .linkCountersRead _ body => requestWellFormed 0x26#8 body
  | .go _ body => requestWellFormed 0x27#8 body
  | .settleTimerExpiry => true
  | .abortCheck _ body => requestWellFormed 0x28#8 body
  | .stopRun _ body => requestWellFormed 0x29#8 body
  | .testTimerExpiry => true
  | .alarmAck _ body => requestWellFormed 0x2A#8 body
  | .alarmReset _ body => requestWellFormed 0x2B#8 body
  | .alarmShelve _ body => requestWellFormed 0x2C#8 body
  | .alarmUnshelve _ body => requestWellFormed 0x2D#8 body
  | .shelvingExpiry _ => true
  | .holdSet _ body => requestWellFormed 0x2E#8 body
  | .holdClear _ body => requestWellFormed 0x2F#8 body
  | .lampDark _ body => requestWellFormed 0x30#8 body
  | .positionSet _ body => requestWellFormed 0x31#8 body
  | .restart _ body _ => requestWellFormed 0x32#8 body
  | .cabStatusTxDone => true
  | .cabLinkLost => true
  | .driveLinkLost => true
  | .driveReference => true
  | .channelSample _ => true
  | .releaseTimerExpiry _ => true
  | .holdTimerExpiry _ => true
  | .setTimerExpiry _ => true
  | .stallTimerExpiry => true
  | .warningTimerExpiry => true
  | .validityTimerExpiry => true
  | .alarmDelayExpiry _ => true
  | .cadenceHalfExpiry _ => true

end Sys2Proof
end

