-- ==== Sys2Proof/Certificates/Slice0/Obligations.lean ====
section
/-! DEFINITION. The statements for the provers. Each docstring names the rules of spec/ that the statement rests on. A
statement with a step or a command in it holds for every value of the free values of Config. -/

open Sys2Proof Sys2Proof.Machine

/-! ### The block, its queue and its resets -/

/-- A step runs the command at the front of the queue on the part with the queue's rest. The second clause is the model's
choice (log entry 1): on an empty queue the block idles. -/
def Obligations.StepTakesTheFrontCommand : Prop :=
  (∀ (c : Instr) (rest : List Instr) (s : State), s.pending = c :: rest → step s = exec c { s with pending := rest }) ∧
    ∀ s : State, s.pending = [] → step s = .next s

/-- No command ends in a fault or a refusal. The queue, and that every command leaves it alone, the resets included, are
the model's choice (log entry 1, DESIGN CHOICE): the queue stands for the environment. -/
def Obligations.CommandsCompleteAndKeepTheQueue : Prop :=
  ∀ (c : Instr) (s : State), ∃ t, exec c s = .next t ∧ t.pending = s.pending

/-- While the reset line stays asserted the part is held: its outputs are off, and no command but POWER_ON and the release
of the line changes anything (R167). That POWER_ON leaves the line as it is, is the model's choice (log entry 4). -/
def Obligations.HeldPartStandsStill : Prop :=
  ∀ s : State, s.held = true →
    (∀ c : Instr, (∀ n, c ≠ .powerOn n) → c ≠ .lineResetRelease → exec c s = .next s) ∧
      (∀ lamp, lampOutput s lamp = false) ∧ hornOutput s = false ∧ beaconOutput s = false

/-- POWER_ON, LINE_RESET_ASSERT, LINE_RESET_RELEASE, and RESTART with the completion of its response (R167, R168). Three
points are the model's: that a POWER_ON leaves the line as it is (log entry 4); that the response to an accepted RESTART
brings the reset in whatever mode it finds the part (log entry 19); and, in StandsReset, the values of PAT_OPERATOR's
counts and exponent, of the stall base and of the stopped horn generator's half (log entry 5). -/
def Obligations.ResetsPutTheResetState : Prop :=
  (∀ (n : Fin 16) (s : State), ∃ t, exec (.powerOn n) s = .next t ∧ StandsReset .powerOn n t ∧
    (∀ k : Fin 64, (t.alarms.runs[k]).count = 0) ∧ t.alarms.trip = none ∧ t.held = s.held) ∧
  (∀ (n : Fin 16) (s : State), s.held = false → ∃ t, exec (.lineResetAssert n) s = .next t ∧ StandsReset .line n t ∧
    RecordsSurvive s t ∧ t.held = true) ∧
  (∀ s : State, exec .lineResetRelease s = .next { s with held := false }) ∧
  (∀ (n : Fin 16) (s : State) (data : List Byte), s.held = false →
    s.links.monitor.response = some ⟨0x32#8, .accepted, data⟩ →
      ∃ t, exec (.monitorResponseSent n) s = .next t ∧ StandsReset .restart n t ∧ RecordsSurvive s t ∧ t.held = false) ∧
  (∀ (n : Fin 16) (s : State), Takes .broadcast 0x32#8 [] s → s.ctl.mode ≠ .ready →
    ∃ t, exec (.restart .broadcast [] n) s = .next t ∧ StandsReset .restart n t ∧ RecordsSurvive s t ∧ t.held = false) ∧
  (∀ (n : Fin 16) (s : State), Takes .station 0x32#8 [] s → s.ctl.mode ≠ .ready →
    exec (.restart .station [] n) s = .next (answered .station 0x32#8 .accepted [] s)) ∧
  (∀ (dest : Dest) (n : Fin 16) (s : State), Takes dest 0x32#8 [] s → s.ctl.mode = .ready →
    exec (.restart dest [] n) s = .next (answered dest 0x32#8 .wrongMode [] s))

/-- R10: after every kind of reset, with NOT_RUNNING oldest and the rest in catalogue order. -/
def Obligations.ResetRecordsStandAsStated : Prop :=
  ∀ (cause : ResetCause) (n : Fin 16),
    let s := State.fresh cause n
    s.records.hoist.reasons = [⟨.notRunning, .trip⟩, ⟨.hold .drive, .stop⟩, ⟨.interlock .walkEngaged, .stop⟩] ∧
    s.records.drag.reasons = [⟨.notRunning, .trip⟩, ⟨.hold .drive, .stop⟩, ⟨.interlock .walkEngaged, .stop⟩] ∧
    s.records.swing.reasons = [⟨.notRunning, .trip⟩, ⟨.hold .drive, .stop⟩, ⟨.interlock .tubLifted, .stop⟩] ∧
    s.records.walk.reasons = [⟨.notRunning, .trip⟩, ⟨.hold .drive, .stop⟩, ⟨.interlock .notSelected, .stop⟩,
      ⟨.interlock .brakesNotSet, .stop⟩, ⟨.interlock .warningIncomplete, .stop⟩] ∧
    ∀ m, s.permit m = .tripped ∧ primaryCause (s.records.get m).reasons = some .notRunning ∧
      (s.records.get m).zonePos = 0 ∧ (s.records.get m).zoneNeg = 0 ∧
      effectiveCap (s.records.get m) .pos = 0 ∧ effectiveCap (s.records.get m) .neg = 0

/-- The reset state meets every law that the other statements prove of a step. -/
def Obligations.ResetStateMeetsTheLaws : Prop :=
  ∀ (cause : ResetCause) (n : Fin 16),
    let s := State.fresh cause n
    SourcesDistinct s ∧ InterlocksPlaced s ∧ LimitKept s ∧ GateLaw s ∧ ReferencesGated s ∧ ReleasesApart s ∧
      BrakeTimersInState s ∧ WalkReferencesBounded s ∧ InterlocksMatch s ∧ WarningInStep s ∧ PluggingMatches s ∧
      WalkWarned s ∧ ActiveListExact s ∧ FirstOutBacked s ∧ ConsequencesExact s ∧ HornRequestExact s ∧ GrantExact s ∧
      BeaconExact s ∧ ConditionsHandedOn s ∧ PreconditionsMatch s ∧ ReleasesFollowDemand s ∧ WarningNeedsGrant s ∧
      ValidityTimed s ∧ StallWatched s ∧ ConsequenceEffects s ∧ GeneratorsRun s ∧ ConditionsFollowSources s ∧
      StatesFollowConditions s ∧ TripsLatch s ∧ WalkTableHeld s ∧ TracksInRange s ∧
      ChannelsInRange s ∧ BufferBounded s ∧ StatusWaitsBehind s ∧ CountersBounded s

/-! ### The authority table -/

/-- R3, R4: the order of a reason set under insertion, update and removal; the other records keep their entries that are
not interlocks, and no zone cap changes. -/
def Obligations.InsertionAndRemovalKeepTheOrder : Prop :=
  (∀ (m : Motion) (e : Reason) (s : State),
    ((insertReason m e s).records.get m).reasons =
      if (s.records.get m).reasons.any (fun x => decide (x.source = e.source)) then
        (s.records.get m).reasons.map (fun x =>
          if x.source = e.source then
            match x.effect, e.effect with
            | .cap _ _, .cap v d => ⟨x.source, .cap v d⟩
            | _, _ => x
          else x)
      else (s.records.get m).reasons ++ [e]) ∧
  (∀ (m : Motion) (src : Source) (s : State),
    ((removeReason m src s).records.get m).reasons = (s.records.get m).reasons.filter (fun x => decide (x.source ≠ src))) ∧
  (∀ (m m' : Motion) (e : Reason) (src : Source) (s t : State), t = insertReason m e s ∨ t = removeReason m src s →
    m' ≠ m →
    (t.records.get m').reasons.filter (fun x => match x.source with | .interlock _ => false | _ => true) =
      (s.records.get m').reasons.filter (fun x => match x.source with | .interlock _ => false | _ => true)) ∧
  (∀ (m m' : Motion) (e : Reason) (src : Source) (s t : State), t = insertReason m e s ∨ t = removeReason m src s →
    (t.records.get m').zonePos = (s.records.get m').zonePos ∧ (t.records.get m').zoneNeg = (s.records.get m').zoneNeg)

/-- R7 with R48, R56, R62, R69, R70, R71, R73, R114: what a change of permit state into STOPPED or TRIPPED does at
once, and that one into FREE or CAPPED begins a release where the sequencer is in SET with demand and the walk
interlock lets it. -/
def Obligations.PermitChangeActsAtOnce : Prop :=
  ∀ (m : Motion) (e : Reason) (src : Source) (s t : State), t = insertReason m e s ∨ t = removeReason m src s →
    t.permit m ≠ s.permit m →
    ((t.permit m = .stopped ∨ t.permit m = .tripped) →
      (t.channels.get m).armed = false ∧ (t.channels.get m).demand = false ∧ (t.brakes.get m).state ≠ .releasing) ∧
    (t.permit m = .tripped →
      (t.channels.get m).r = 0 ∧ (t.channels.get m).history = List.replicate 8 0 ∧ (t.brakes.get m).state ≠ .released ∧
        (m = .walk → t.walk.walkL = 0 ∧ t.walk.walkR = 0)) ∧
    (t.permit m = .free ∨ t.permit m = .capped →
      let begins := (s.brakes.get m).state = .set ∧ (s.channels.get m).demand = true ∧ ReleaseLetBy s m
      (begins → t.brakes.get m = { s.brakes.get m with
        state := .releasing, releaseTimer := some ⟨0, (s.machine.brakes.get m).tRel⟩ }) ∧
      (¬begins → t.brakes.get m = s.brakes.get m))

/-- R9: each effective cap is the least of the zone cap, 1000 and the covering CAP entries; a sample uses the effective
caps that its own zone caps leave, and its published reference is bounded by them. -/
def Obligations.EffectiveCapIsTheLeast : Prop :=
  (∀ (m : Motion) (s : State),
    let t := takeZoneCaps m s
    (t.records.get m).zonePos = zoneCap s m .pos ∧ (t.records.get m).zoneNeg = zoneCap s m .neg ∧
      -(effectiveCap (t.records.get m) .neg : Int) ≤ (sampledChannel m t).r ∧
      (sampledChannel m t).r ≤ effectiveCap (t.records.get m) .pos) ∧
  ∀ (r : Record) (d : Dir),
    effectiveCap r d ≤ r.zoneCap d ∧ effectiveCap r d ≤ 1000 ∧
    (∀ e ∈ r.reasons, ∀ v dir, e.effect = .cap v dir → dir.covers d = true → effectiveCap r d ≤ v) ∧
    (effectiveCap r d = r.zoneCap d ∨ effectiveCap r d = 1000 ∨
      ∃ e ∈ r.reasons, ∃ dir, e.effect = .cap (effectiveCap r d) dir ∧ dir.covers d = true)

/-- R8: the primary cause is the source of the oldest STOP or TRIP entry, and none where there is no such entry; an update
of an entry that is present never changes it. With R7: what the permit state is derived from. -/
def Obligations.PrimaryCauseIsTheOldestHalt : Prop :=
  (∀ (m : Motion) (e : Reason) (s : State), hasSource (s.records.get m).reasons e.source = true →
    primaryCause ((insertReason m e s).records.get m).reasons = primaryCause (s.records.get m).reasons) ∧
  (∀ (m : Motion) (s : State),
    let rs := (s.records.get m).reasons
    let tripped := ∃ e ∈ rs, e.effect = .trip
    let stopped := ∃ e ∈ rs, e.effect = .stop
    (tripped → s.permit m = .tripped) ∧ (¬tripped → stopped → s.permit m = .stopped) ∧
      (¬tripped → ¬stopped → rs ≠ [] → s.permit m = .capped) ∧ (rs = [] → s.permit m = .free)) ∧
  ∀ rs : List Reason,
    (primaryCause rs = none ↔ ∀ e ∈ rs, ∃ v d, e.effect = .cap v d) ∧
    ∀ src, primaryCause rs = some src ↔
      ∃ older e newer, rs = older ++ e :: newer ∧ e.source = src ∧ (e.effect = .stop ∨ e.effect = .trip) ∧
        ∀ x ∈ older, ∃ v d, x.effect = .cap v d

/-- R5, first half, at every step. -/
def Obligations.SourcesStayDistinct : Prop :=
  ∀ s t : State, SourcesDistinct s → step s = .next t → SourcesDistinct t

/-- R5, second half: the reasons stay where the catalogue puts them, the alarm limit of R6 is kept, and with the
consequences exact no reason set holds more than 30 entries. -/
def Obligations.ReasonSetsHoldAtMostThirty : Prop :=
  (∀ s t : State, InterlocksPlaced s → step s = .next t → InterlocksPlaced t) ∧
  (∀ s t : State, LimitKept s → step s = .next t → LimitKept t) ∧
  ∀ s : State, SourcesDistinct s → InterlocksPlaced s → LimitKept s → ConsequencesExact s →
    ∀ m, (s.records.get m).reasons.length ≤ 30

/-- R15 to R20, with R11, R12 and R110: an empty table gives 0; an unreferenced axis has the least cap of its table; a
referenced one has the least candidate of the zones reached within the lookahead, and becoming referenced never lowers the
zone cap; and the zone caps of WALK are those of the cams' phases. -/
def Obligations.ZoneCapsFollowTheTables : Prop :=
  (∀ (circular : Bool) (zs : List Zone) (p : AxisParams) (t : Track) (d : Dir), ZonesHeld circular zs →
    let reached (i dist : Nat) (z : Zone) : Prop :=
      zs[i]? = some z ∧ ZoneReached circular p.lookahead t.pos d z.start (zoneEnd circular zs i) dist
    zoneCapOf circular [] p t d = 0 ∧
    (t.referenced = false →
      (∀ z ∈ zs, zoneCapOf circular zs p t d ≤ z.cap d) ∧ ∃ z ∈ zs, zoneCapOf circular zs p t d = z.cap d) ∧
    (t.referenced = true → t.pos ≤ (if circular then 3599 else 9999) →
      (∀ i dist z, reached i dist z → zoneCapOf circular zs p t d ≤ z.cap d + dist * p.slope) ∧
      ∃ i dist z, reached i dist z ∧ zoneCapOf circular zs p t d = z.cap d + dist * p.slope) ∧
    zoneCapOf circular zs p { t with referenced := false } d ≤ zoneCapOf circular zs p { t with referenced := true } d) ∧
  (∀ (s : State) (d : Dir),
    zoneCap s .hoist d = zoneCapOf false s.zones.hoist s.axisParams.hoist s.tracker.axes.hoist d ∧
    zoneCap s .drag d = zoneCapOf false s.zones.drag s.axisParams.drag s.tracker.axes.drag d ∧
    zoneCap s .swing d = zoneCapOf true s.zones.swing s.axisParams.swing s.tracker.axes.swing d) ∧
  ∀ (s : State) (d : Dir),
    let camL := s.tracker.axes.camL
    let camR := s.tracker.axes.camR
    (s.walk.table = none → zoneCap s .walk d = 0) ∧
    ∀ t, s.walk.table = some t →
      (camL.referenced = false ∨ camR.referenced = false →
        zoneCap s .walk .pos = s.machine.creepCap ∧ zoneCap s .walk .neg = 0) ∧
      (camL.referenced = true → camR.referenced = true → PhasesHeld t → camL.pos ≤ 3599 → camR.pos ≤ 3599 →
        ∃ (i j : Fin 6) (a b : PhaseRow), PhaseContains t i camL.pos ∧ PhaseContains t j camR.pos ∧
          t.rows[i.val]? = some a ∧ t.rows[j.val]? = some b ∧ zoneCap s .walk d = min (a.cap d) (b.cap d))

/-! ### Position tracking -/

/-- R29: the delta of an arrival, which is the one tested, accumulated and handed on. -/
def Obligations.DeltaIsTheSignedDifference : Prop :=
  (∀ (a : Axis) (p : AxisParams) (raw : Nat) (t : Track),
    let delta := rawDelta p t.lastRaw raw
    (delta.natAbs ≤ p.maxDelta →
      (countStep a p true raw t).acc = (if Axis.isRope a then limitInt (-2147483648) 2147483647 (t.acc + delta)
        else (t.acc + delta) % p.n) ∧ handedDelta p true raw t = some delta) ∧
    (p.maxDelta < delta.natAbs → (countStep a p true raw t).acc = t.acc ∧ handedDelta p true raw t = none)) ∧
  ∀ (p : AxisParams) (last new : Nat), last < 65536 → new < 65536 →
    (p.polarity = .normal →
      (rawDelta p last new - ((new : Int) - last)) % 65536 = 0 ∧ -32768 ≤ rawDelta p last new ∧
        rawDelta p last new ≤ 32767) ∧
    (p.polarity = .inverted → rawDelta p last new = -rawDelta { p with polarity := .normal } last new)

/-- R25, R32, R33, at every step. -/
def Obligations.TracksStayInRange : Prop :=
  ∀ s t : State, TracksInRange s → step s = .next t → TracksInRange t

/-- R35: POSITION_SET out of range, refused BUSY, and accepted. -/
def Obligations.PositionSetReferencesTheAxis : Prop :=
  ∀ (dest : Dest) (code v : Nat) (s : State), code < 256 → v < 65536 → Takes dest 0x31#8 (byteOf code :: le16 v) s →
    (5 ≤ code → exec (.positionSet dest (byteOf code :: le16 v)) s = .next (answered dest 0x31#8 .outOfRange [] s)) ∧
    ∀ a, axisOfCode code = some a →
      (Axis.top a < v → exec (.positionSet dest (byteOf code :: le16 v)) s = .next (answered dest 0x31#8 .outOfRange [] s)) ∧
      (v ≤ Axis.top a → (s.brakes.get (Axis.motion a)).state ≠ .set →
        exec (.positionSet dest (byteOf code :: le16 v)) s = .next (answered dest 0x31#8 .busy [] s)) ∧
      (v ≤ Axis.top a → (s.brakes.get (Axis.motion a)).state = .set →
        ∃ t, exec (.positionSet dest (byteOf code :: le16 v)) s = .next t ∧
          AuthorityKept { answered dest 0x31#8 .accepted [] s with
            tracker := { s.tracker with axes := s.tracker.axes.set a { s.tracker.axes.get a with
              acc := 0, base := v, pos := v, overRange := false, referenced := true, jumps := 0, jumped := false } } } t)

/-! ### Reference shaping -/

/-- R50: the deadband stage, its range, and the two ends it keeps. -/
def Obligations.DeadbandRule : Prop :=
  ∀ (db : Nat) (p : Int), db ≤ 200 → -1000 ≤ p → p ≤ 1000 →
    (p.natAbs ≤ db → deadband db p = 0) ∧
    (db < p.natAbs → deadband db p = p.sign * (((p.natAbs - db) * 1000 / (1000 - db) : Nat) : Int)) ∧
    (-1000 ≤ deadband db p ∧ deadband db p ≤ 1000) ∧ (db < p.natAbs → 1 ≤ (deadband db p).natAbs) ∧
    (p.natAbs = 1000 → deadband db p = p) ∧ (db = 0 → deadband db p = p)

/-- R59, R60, R61: the hard clamp with the law of the caps, the trip stage, and the brake gate, which leaves the history
and demand alone; with the stages before them: the arm test and the input (R47, R49), the gain, the filter, the peak and
the saturation count (R51, R52, R53), the cap target with demand (R55, R56) and the rate limiter (R57). The deadband stage
is stated by DeadbandRule. -/
def Obligations.SampleRunsTheChain : Prop :=
  (∀ (ch : Channel) (permit : Permit) (pos neg : Nat) (lost released : Bool),
    let n := sampleChannel ch permit pos neg lost released
    let x := rateLimit ch.r n.c ch.params.aUp (if permit = .stopped then ch.params.aStop else ch.params.aDown)
    (-(neg : Int) ≤ n.r ∧ n.r ≤ pos) ∧
    (permit ≠ .tripped → released = true →
      n.r = if (pos : Int) < x then (pos : Int) else if x < -(neg : Int) then -(neg : Int) else x) ∧
    (permit = .tripped → n.r = 0 ∧ n.history = List.replicate 8 0) ∧
    (released = false → n.r = 0 ∧ n = { sampleChannel ch permit pos neg lost true with r := 0 })) ∧
  (∀ (ch : Channel) (permit : Permit) (pos neg : Nat) (lost released : Bool),
    let n := sampleChannel ch permit pos neg lost released
    let halted := decide (permit = .stopped ∨ permit = .tripped)
    let input := if lost || !n.armed || halted then 0 else ch.latched
    (n.armed = true ↔ ch.armed = true ∨ (lost = false ∧ halted = false ∧ ch.latched.natAbs ≤ ch.params.db)) ∧
    (∃ g y : Int,
      let pushed := limitInt (-1000) 1000 g :: ch.history.take 7
      RoundedUnits (deadband ch.params.db input * unitsOf ch.params.gain) g ∧
      RoundedUnits (List.zipWith (fun tap x => unitsOf tap * x) ch.params.taps pushed).sum y ∧
      (permit ≠ .tripped → n.history = pushed) ∧ n.y = limitInt (-1000) 1000 y ∧
      n.sats =
        (let once := if g < -1000 ∨ 1000 < g then min (ch.sats + 1) 65535 else ch.sats
         if y < -1000 ∨ 1000 < y then min (once + 1) 65535 else once)) ∧
    n.peak = max ch.peak n.y.natAbs ∧
    n.c = (if halted then 0 else if (pos : Int) < n.y then (pos : Int) else if n.y < -(neg : Int) then -(neg : Int)
      else n.y) ∧
    (n.demand = true ↔ n.c ≠ 0) ∧ n.latched = ch.latched ∧ n.params = ch.params) ∧
  ∀ (r c : Int) (up down : Nat),
    (r = c → rateLimit r c up down = r) ∧
    (r = 0 ∨ 0 < r * c → r.natAbs < c.natAbs → Moved r c up (rateLimit r c up down)) ∧
    (c = 0 ∨ 0 < r * c → c.natAbs < r.natAbs → Moved r c down (rateLimit r c up down)) ∧
    (r * c < 0 → Moved r 0 down (rateLimit r c up down))

/-- R15, R42, R53, R56, R62, R63, R69, R71, R96, R98, R99, R111 to R115: CHANNEL_SAMPLE. The sample is that of the state
in which it is taken; at a SWING or WALK expiry the walk-window test is taken before or after it (R42). That at a WALK
expiry the cams are found before the sample is the model's fixed order (log entry 7). A halt that the same event brings
makes the armed flag and demand false, and a trip the history zeros and r 0. With R125: a walk sample whose r is not 0
leaves no validity timer that ran before it, though a trip in the same event zeroes r again. -/
def Obligations.ChannelSampleTakesOneSample : Prop :=
  ∀ (m : Motion) (s : State), s.held = false → (s.channels.get m).sampleTimer.due = true →
    ∃ t, exec (.channelSample m) s = .next t ∧
      (t.channels.get m).sampleTimer = ⟨0, 1⟩ ∧
      (t.records.get m).zonePos = zoneCap s m .pos ∧ (t.records.get m).zoneNeg = zoneCap s m .neg ∧
      (-(zoneCap s m .neg : Int) ≤ (t.channels.get m).r ∧ (t.channels.get m).r ≤ zoneCap s m .pos) ∧
      (t.channels.get m).latched = (s.channels.get m).latched ∧
      (t.channels.get m).peak = max (s.channels.get m).peak (t.channels.get m).y.natAbs ∧
      (let found := if m = .walk then takePhases s else s
       let begun : State := { found with freeIx := found.freeIx + 1 }
       ∃ u, (u = begun ∨ (m = .swing ∨ m = .walk) ∧ u = takeWindow begun) ∧
        let caps : Record := { u.records.get m with zonePos := zoneCap s m .pos, zoneNeg := zoneCap s m .neg }
        let old := u.channels.get m
        let n := sampleChannel old (u.permit m) (effectiveCap caps .pos) (effectiveCap caps .neg)
          s.links.cab.lost (decide ((u.brakes.get m).state = .released))
        let new := t.channels.get m
        new.y = n.y ∧ new.c = n.c ∧ new.sats = n.sats ∧ (new.r = n.r ∨ new.r = 0) ∧
          ((new.armed = n.armed ∧ new.demand = n.demand ∧ new.history = n.history) ∨
            (new.armed = false ∧ new.demand = false ∧
              (new.history = n.history ∨ (new.history = List.replicate 8 0 ∧ new.r = 0)))) ∧
          (old.demand = false → n.demand = true → (u.brakes.get m).state = .set → ReleaseLetBy u m → new.demand = true →
            t.brakes.get m = { u.brakes.get m with
              state := .releasing, releaseTimer := some ⟨0, (s.machine.brakes.get m).tRel⟩ }) ∧
          (old.demand = true → n.demand = false → (u.brakes.get m).state = .releasing →
            t.brakes.get m = { u.brakes.get m with
              state := .setting, releaseTimer := none, holdTimer := none,
              setTimer := some ⟨0, (s.machine.brakes.get m).tSet⟩ }) ∧
          (m = .walk → n.r ≠ 0 →
            t.walk.validTimer = none ∨ t.walk.validTimer = some ⟨0, s.machine.warnValid⟩)) ∧
      (m = .walk →
        (WalkTableHeld s → TracksInRange s → CamsStand t) ∧
        t.walk.left.progress = (if t.walk.left.phase.isSome then s.walk.left.progress else none) ∧
        t.walk.right.progress = (if t.walk.right.phase.isSome then s.walk.right.progress else none) ∧
        (t.walk.diff ≠ none →
          t.walk.left.pending = s.walk.left.pending ∧ t.walk.right.pending = s.walk.right.pending) ∧
        (t.walk.diff = none → t.walk.sync = s.walk.sync) ∧
        (∀ d, t.walk.diff = some d →
          (s.machine.syncFault < d.natAbs → t.walk.sync = true) ∧
          (d.natAbs ≤ s.machine.syncFault → d.natAbs ≤ s.machine.syncTol → t.walk.sync = false) ∧
          (d.natAbs ≤ s.machine.syncFault → s.machine.syncTol < d.natAbs → t.walk.sync = s.walk.sync)) ∧
        (t.walk.walkL, t.walk.walkR) = splitWalk s.machine t.channels.walk.r t.walk.diff) ∧
      (m = .swing →
        t.swing.target = t.channels.swing.c ∧ t.swing.speed = s.swing.speed ∧
          (EffectsAsCatalogued s → PluggingFound t)) ∧
      (m = .swing ∨ m = .walk → (s.zones.swing ≠ [] → ZonesHeld true s.zones.swing) →
        s.tracker.axes.swing.pos ≤ 3599 → WindowFound t) ∧
      (m = .hoist ∨ m = .drag → t.swing.window = s.swing.window) ∧
      (∀ m', m' ≠ m → (t.channels.get m').y = (s.channels.get m').y ∧ (t.channels.get m').c = (s.channels.get m').c ∧
        (t.channels.get m').latched = (s.channels.get m').latched ∧ (t.channels.get m').peak = (s.channels.get m').peak ∧
        (t.channels.get m').sats = (s.channels.get m').sats ∧
        (t.channels.get m').sampleTimer = (s.channels.get m').sampleTimer ∧
        ((t.channels.get m').r = (s.channels.get m').r ∨ (t.channels.get m').r = 0) ∧
        (t.records.get m').zonePos = (s.records.get m').zonePos ∧ (t.records.get m').zoneNeg = (s.records.get m').zoneNeg) ∧
      TablesKept s t ∧ t.tracker = s.tracker ∧ t.hd = s.hd ∧ t.ctl = s.ctl ∧ t.links = s.links ∧ t.walk.steps = s.walk.steps

/-- R41: the history, the stage values and the counters keep their ranges at every step. -/
def Obligations.ChannelsStayInRange : Prop :=
  ∀ s t : State, ChannelsInRange s → step s = .next t → ChannelsInRange t

/-! ### Brakes and the gate -/

/-- R62 with R73, R77, R161, R176: the law of the gate, at every step, with the release requests outside READY. -/
def Obligations.ReferencesStayGated : Prop :=
  ∀ s t : State, GateLaw s → step s = .next t →
    GateLaw t ∧ ReferencesGated t ∧ (t.ctl.mode ≠ .ready → ∀ m, releaseRequest t m = false)

/-- R70, R67, R69 and R71, at every step: releases stay apart; each timer runs in its own state; a sequencer does not rest
in SET under its release condition, nor in RELEASING without it; and the release and set timers start from 0. -/
def Obligations.BrakeSequencersStayLawful : Prop :=
  (∀ s t : State, ReleasesApart s → step s = .next t → ReleasesApart t) ∧
  (∀ s t : State, BrakeTimersInState s → step s = .next t → BrakeTimersInState t) ∧
  (∀ s t : State, ReleasesFollowDemand s → EffectsAsCatalogued s → step s = .next t → ReleasesFollowDemand t) ∧
  ∀ (s t : State) (m : Motion), step s = .next t →
    ((s.brakes.get m).state ≠ .releasing → (t.brakes.get m).state = .releasing →
      (t.brakes.get m).releaseTimer = some ⟨0, (t.machine.brakes.get m).tRel⟩) ∧
    ((s.brakes.get m).state ≠ .setting → (t.brakes.get m).state = .setting →
      (t.brakes.get m).setTimer = some ⟨0, (t.machine.brakes.get m).tSet⟩)

/-- R67, R71, R72, R73, R74: what the arrival of a released bit and a speed makes of a sequencer in each of its states.
That the settle step and the release tests follow an entry into SET leaves that sequencer in SET or RELEASING. -/
def Obligations.BrakeArrivalsMoveTheSequencer : Prop :=
  ∀ (m : Motion) (released : Bool) (speed : Int) (s : State),
    let old := s.brakes.get m
    let new := (brakeArrival m released speed s).brakes.get m
    let noted : Brake := { old with lastReleased := released, lastSpeed := limitInt (-1000) 1000 speed }
    let rests := (s.channels.get m).r = 0 ∧ (s.channels.get m).demand = false ∧
      noted.lastSpeed.natAbs ≤ (s.machine.brakes.get m).vRest
    (old.state = .set → new = noted) ∧
    (old.state = .setting → released = true → new = noted) ∧
    (old.state = .setting → released = false → new.setTimer = none ∧ new.releaseFail = false ∧ new.setFail = false ∧
      (new.state = .set ∨ new.state = .releasing) ∧ new.lastReleased = false ∧ new.lastSpeed = noted.lastSpeed) ∧
    (old.state = .releasing → released = false → new = noted) ∧
    (old.state = .releasing → released = true →
      (¬rests → new = { noted with state := .released, releaseTimer := none, holdTimer := none }) ∧
      (rests → (s.machine.brakes.get m).tHold ≠ 0 →
        new = { noted with state := .released, releaseTimer := none,
                           holdTimer := some ⟨0, (s.machine.brakes.get m).tHold⟩ }) ∧
      (rests → (s.machine.brakes.get m).tHold = 0 →
        new = { noted with state := .setting, releaseTimer := none, holdTimer := none,
                           setTimer := some ⟨0, (s.machine.brakes.get m).tSet⟩ })) ∧
    (old.state = .released →
      (¬rests → new = { noted with holdTimer := none }) ∧
      (rests → old.holdTimer ≠ none → new = noted) ∧
      (rests → old.holdTimer = none → (s.machine.brakes.get m).tHold ≠ 0 →
        new = { noted with holdTimer := some ⟨0, (s.machine.brakes.get m).tHold⟩ }) ∧
      (rests → old.holdTimer = none → (s.machine.brakes.get m).tHold = 0 →
        new = { noted with state := .setting, releaseTimer := none, holdTimer := none,
                           setTimer := some ⟨0, (s.machine.brakes.get m).tSet⟩ }))

/-- R71, R72, R74: RELEASE_TIMER_EXPIRY, HOLD_TIMER_EXPIRY and SET_TIMER_EXPIRY. -/
def Obligations.BrakeTimerExpiriesAct : Prop :=
  ∀ (m : Motion) (s : State) (elapsed limit : Nat), s.held = false → limit ≤ elapsed →
    ((s.brakes.get m).state = .releasing → (s.brakes.get m).releaseTimer = some ⟨elapsed, limit⟩ →
      ∃ t, exec (.releaseTimerExpiry m) s = .next t ∧
        t.brakes.get m = { s.brakes.get m with state := .setting, releaseTimer := none, holdTimer := none,
                                               setTimer := some ⟨0, (s.machine.brakes.get m).tSet⟩, releaseFail := true } ∧
        TablesKept s t ∧ t.tracker = s.tracker ∧ t.hd = s.hd ∧ t.ctl = s.ctl ∧ t.links = s.links) ∧
    ((s.brakes.get m).state = .released → (s.brakes.get m).holdTimer = some ⟨elapsed, limit⟩ →
      ∃ t, exec (.holdTimerExpiry m) s = .next t ∧
        t.brakes.get m = { s.brakes.get m with state := .setting, releaseTimer := none, holdTimer := none,
                                               setTimer := some ⟨0, (s.machine.brakes.get m).tSet⟩ } ∧
        (t.channels.get m).r = 0 ∧ (m = .walk → t.walk.walkL = 0 ∧ t.walk.walkR = 0) ∧ AuthorityKept s t) ∧
    ((s.brakes.get m).state = .setting → (s.brakes.get m).setTimer = some ⟨elapsed, limit⟩ →
      ∃ t, exec (.setTimerExpiry m) s = .next t ∧
        t.brakes.get m = { s.brakes.get m with setFail := true, setTimer := none } ∧
        TablesKept s t ∧ t.tracker = s.tracker ∧ t.hd = s.hd ∧ t.ctl = s.ctl ∧ t.links = s.links)

/-! ### The cyclic frames -/

/-- R21, R46, R119, R120, R133, R136, R151, R155, R174, R175: what a CAB_COMMAND leaves with its consumers in every order
of taking, with the selection state that its walk select bit leaves (R119, R120) and what a change of it brings (R48,
R124, R126), and the status that answers it; a frame of another length is counted and changes nothing else. The actions of
its buttons, for this command too, are stated by AcknowledgeAndResetMoveTheNamedAlarms. -/
def Obligations.CabCommandReachesItsConsumers : Prop :=
  ∀ (body : List Byte) (s : State), s.held = false →
    (body.length = cabCommandLength →
      let f := cabFrameOf body
      ∃ t, exec (.cabCommand body) s = .next t ∧
        (∀ m, (t.channels.get m).latched = limitInt (-1000) 1000 (f.levers.get m)) ∧
        (∀ m, hasSource (t.records.get m).reasons (.hold .cab) = f.holds.get m) ∧
        t.walk.lastSelect = some f.walkSelect ∧
        (s.walk.lastSelect ≠ some (!f.walkSelect) → t.walk.selection = s.walk.selection) ∧
        (s.walk.lastSelect = some false → f.walkSelect = true →
          t.walk.selection = .selected ∧
          (s.walk.selection = .deselected → t.walk.warning = .sounding ∧ t.walk.hornRequest = true)) ∧
        (s.walk.lastSelect = some true → f.walkSelect = false →
          let raised := s.walk.left.phase = some .raised ∧ s.walk.right.phase = some .raised
          (s.walk.selection ≠ .selected → t.walk.selection = s.walk.selection) ∧
          (s.walk.selection = .selected →
            (t.walk.selection = .deselected ∨ t.walk.selection = .deselectPending) ∧
            (raised → t.brakes.walk.state = .set → t.walk.selection = .deselected) ∧
            (¬raised ∨ s.brakes.walk.state ≠ .set → t.walk.selection = .deselectPending) ∧
            (t.walk.selection = .deselected → t.walk.warning = .cleared ∧ t.walk.hornRequest = false))) ∧
        (t.walk.selection ≠ s.walk.selection → t.channels.walk.armed = false) ∧
        t.alarms.lastButtons = some ⟨f.ack, f.reset, f.silence⟩ ∧
        t.ann.lampTest = f.lampTest ∧ t.ann.operatorRequest = f.horn ∧ t.alarms.cabInputs = some f.inputs ∧
        t.links = { s.links with
          cab := { s.links.cab with fresh := some ⟨0, 10⟩, lost := false },
          cabSending := some (s.links.cabSending.getD ⟨0x01#8, 0x81#8, cabStatusBody t⟩),
          cabWaiting := if s.links.cabSending.isSome then some ⟨0x01#8, 0x81#8, cabStatusBody t⟩ else s.links.cabWaiting } ∧
        (∀ m, (t.channels.get m).y = (s.channels.get m).y ∧ (t.channels.get m).c = (s.channels.get m).c ∧
          ((t.channels.get m).r = (s.channels.get m).r ∨ (t.channels.get m).r = 0) ∧
          (t.records.get m).zonePos = (s.records.get m).zonePos ∧ (t.records.get m).zoneNeg = (s.records.get m).zoneNeg) ∧
        TablesKept s t ∧ t.tracker = s.tracker ∧ t.hd = s.hd ∧ t.ctl = s.ctl) ∧
    (body.length ≠ cabCommandLength → ∃ t, exec (.cabCommand body) s = .next t ∧ CountedOnce .cab .format s t)

/-- R22, R27 to R34, R67, R69 to R74, R81 to R85, R87, R98, R99, R111 to R113, R133, R161, R163, R175, R176: what a
DRIVE_FEEDBACK leaves with its consumers in every order of taking; a frame of another length is counted and changes
nothing else. A published reference may be zeroed in the same arrival, before or after the supervisor reads it (R82): a
condition that needs it above 0 is true only where it was above 0 before the arrival, and is true where it still is
after it. In CHECK the arrival enters READY exactly where it leaves all four brakes in SET: those in SET before it, and
those in SETTING whose released bit it carries false. Where each sequencer stands afterwards, BrakeTaken says. -/
def Obligations.DriveFeedbackReachesItsConsumers : Prop :=
  ∀ (body : List Byte) (s : State), s.held = false →
    (body.length = driveFeedbackLength →
      let f := driveFrameOf body
      ∃ t, exec (.driveFeedback body) s = .next t ∧
        (∀ a, TrackedArrival a (s.axisParams.get a) s.tracker.countsBased (f.raws.get a) (f.refs.get a)
          (s.tracker.axes.get a) (t.tracker.axes.get a)) ∧
        t.tracker.countsBased = true ∧
        (∀ m, (t.brakes.get m).lastReleased = f.released.get m ∧
          (t.brakes.get m).lastSpeed = limitInt (-1000) 1000 (f.speeds.get m)) ∧
        (TripsLatch s → ∀ m, BrakeTaken m (f.released.get m) s t) ∧
        (∀ m, hasSource (t.records.get m).reasons (.hold .drive) = !f.ready.get m) ∧
        t.hd.hoistTorque = limitInt (-1000) 1000 f.torques.hoist ∧ t.hd.dragTorque = limitInt (-1000) 1000 f.torques.drag ∧
        t.hd.evaluated = true ∧
        t.hd.grounded = (t.tracker.axes.hoist.referenced && decide (s.machine.groundPayout ≤ t.tracker.axes.hoist.pos) &&
          decide (t.hd.hoistTorque.natAbs ≤ s.machine.slackTorque)) ∧
        (let torques := (s.machine.tlTorque : Int) ≤ t.hd.hoistTorque ∧ (s.machine.tlTorque : Int) ≤ t.hd.dragTorque
         (t.hd.tightLine = true → torques ∧ 0 < s.channels.hoist.r ∧ 0 < s.channels.drag.r) ∧
         (torques → 0 < t.channels.hoist.r → 0 < t.channels.drag.r → t.hd.tightLine = true)) ∧
        (let atLimit := t.tracker.axes.hoist.referenced = true ∧ t.tracker.axes.hoist.pos ≤ s.machine.hoistTopLimit
         (t.hd.hoistOvertravel = true → atLimit ∧ 0 < s.channels.hoist.r) ∧
         (atLimit → 0 < t.channels.hoist.r → t.hd.hoistOvertravel = true)) ∧
        (let atLimit := t.tracker.axes.drag.referenced = true ∧ t.tracker.axes.drag.pos ≤ s.machine.dragInLimit
         (t.hd.dragOvertravel = true → atLimit ∧ 0 < s.channels.drag.r) ∧
         (atLimit → 0 < t.channels.drag.r → t.hd.dragOvertravel = true)) ∧
        t.swing.speed = limitInt (-1000) 1000 f.speeds.swing ∧ t.swing.target = s.swing.target ∧
        t.swing.window = s.swing.window ∧ (EffectsAsCatalogued s → PluggingFound t) ∧
        (WalkTableHeld s → TracksInRange s → CamsStand t) ∧
        (s.ctl.mode ≠ .check → t.ctl = s.ctl) ∧
        (s.ctl.mode = .check → GateLaw s →
          let confirmed := ∀ m, (s.brakes.get m).state = .set ∨ f.released.get m = false
          (confirmed →
            t.ctl = { s.ctl with mode := .ready, check := .passed, settleTimer := none, testTimer := some ⟨0, 100⟩,
                                 feedbackSeen := true } ∧
            ∀ m, hasSource (t.records.get m).reasons .notRunning = false ∧ (t.channels.get m).armed = false) ∧
          (¬confirmed →
            t.ctl = { s.ctl with feedbackSeen := true } ∧
            ∀ m, hasSource (t.records.get m).reasons .notRunning = true)) ∧
        t.alarms.driveInputs = some f.faults ∧
        t.links = { s.links with drive := { s.links.drive with fresh := some ⟨0, 5⟩, lost := false } } ∧
        (∀ m, (t.channels.get m).latched = (s.channels.get m).latched ∧ (t.channels.get m).y = (s.channels.get m).y ∧
          (t.channels.get m).c = (s.channels.get m).c ∧
          ((t.channels.get m).r = (s.channels.get m).r ∨ (t.channels.get m).r = 0) ∧
          (t.records.get m).zonePos = (s.records.get m).zonePos ∧ (t.records.get m).zoneNeg = (s.records.get m).zoneNeg) ∧
        TablesKept s t ∧ t.ctl.time = s.ctl.time ∧ t.ctl.figures = s.ctl.figures) ∧
    (body.length ≠ driveFeedbackLength → ∃ t, exec (.driveFeedback body) s = .next t ∧ CountedOnce .drive .format s t)

/-! ### Walking -/

/-- R114: the walk references of a sample and of a zeroing, the bound that they keep, and the frame that carries them. -/
def Obligations.WalkReferenceIsShared : Prop :=
  (∀ s : State,
    ((handWalkReference s).walk.walkL, (handWalkReference s).walk.walkR) =
        splitWalk s.machine s.channels.walk.r s.walk.diff ∧
      (zeroReference .walk s).walk.walkL = 0 ∧ (zeroReference .walk s).walk.walkR = 0 ∧
      ((driveReferenceBody s).drop 6).take 4 = si16 s.walk.walkL ++ si16 s.walk.walkR) ∧
  ∀ (p : MachineParams) (r : Int) (diff : Option Int),
    (diff = none → splitWalk p r diff = (r, r)) ∧
    (∀ d, diff = some d →
      ((r = 0 ∨ d.natAbs ≤ p.syncTol) → splitWalk p r diff = (r, r)) ∧
      (r ≠ 0 → p.syncTol < d.natAbs →
        let trim := min r.natAbs ((d.natAbs - p.syncTol) * p.kTrim)
        let slowed := r.sign * ((r.natAbs - trim : Nat) : Int)
        ((0 < r ∧ 0 < d) ∨ (r < 0 ∧ d < 0) → splitWalk p r diff = (slowed, r)) ∧
        ((0 < r ∧ d < 0) ∨ (r < 0 ∧ 0 < d) → splitWalk p r diff = (r, slowed)))) ∧
    ∀ x, x = (splitWalk p r diff).1 ∨ x = (splitWalk p r diff).2 →
      x.natAbs ≤ r.natAbs ∧ (0 ≤ r → 0 ≤ x) ∧ (r ≤ 0 → x ≤ 0)

/-- R114: both walk references stay between the walk channel's r and 0, at every step. -/
def Obligations.WalkReferencesStayBounded : Prop :=
  ∀ s t : State, WalkReferencesBounded s → step s = .next t → WalkReferencesBounded t

/-- R111, R116, R117: the last progress and the completion of each cam at a DRIVE_FEEDBACK, with the step test that
follows; the step test by itself; and the law that the count changes by one at most and only at a DRIVE_FEEDBACK, resets
apart. With R108, R110: the phase table stays held and the last progresses on the circle, at every step. -/
def Obligations.StepCountChangesByOne : Prop :=
  (∀ s t : State, WalkTableHeld s → step s = .next t → WalkTableHeld t) ∧
  (∀ (body : List Byte) (s : State), s.held = false → body.length = driveFeedbackLength → WalkTableHeld s →
    TracksInRange s →
    let f := driveFrameOf body
    let delta (a : Axis) : Option Int :=
      handedDelta (s.axisParams.get a) s.tracker.countsBased (f.raws.get a) (s.tracker.axes.get a)
    ∃ t, exec (.driveFeedback body) s = .next t ∧
      (t.walk.diff = none → t.walk.steps = s.walk.steps) ∧
      ∀ tab, s.walk.table = some tab →
        ProgressTaken tab t.tracker.axes.camL.pos t.walk.left ∧ ProgressTaken tab t.tracker.axes.camR.pos t.walk.right ∧
        (t.walk.diff ≠ none → ∃ left right : Pending,
          CamCompletes tab s.walk.left.progress (delta .camL) t.walk.left.phase s.walk.left.pending left ∧
          CamCompletes tab s.walk.right.progress (delta .camR) t.walk.right.phase s.walk.right.pending right ∧
          (left = .forward ∧ right = .forward → t.walk.steps = min (s.walk.steps + 1) 32767) ∧
          (left = .reverse ∧ right = .reverse → t.walk.steps = max (s.walk.steps - 1) (-32768)) ∧
          (left = right → t.walk.left.pending = .none ∧ t.walk.right.pending = .none) ∧
          (left = .none ∨ left ≠ right → t.walk.left.pending = left ∧ t.walk.right.pending = right ∧
            t.walk.steps = s.walk.steps))) ∧
  (∀ w : Walk,
    (w.left.pending = .forward → w.right.pending = .forward →
      (stepTest w).steps = min (w.steps + 1) 32767 ∧ (stepTest w).left.pending = .none ∧
        (stepTest w).right.pending = .none) ∧
    (w.left.pending = .reverse → w.right.pending = .reverse →
      (stepTest w).steps = max (w.steps - 1) (-32768) ∧ (stepTest w).left.pending = .none ∧
        (stepTest w).right.pending = .none) ∧
    (w.left.pending ≠ w.right.pending ∨ w.left.pending = .none → stepTest w = w)) ∧
  (∀ (c : Instr) (s t : State), -32768 ≤ s.walk.steps → s.walk.steps ≤ 32767 → exec c s = .next t →
    (-32768 ≤ t.walk.steps ∧ t.walk.steps ≤ 32767) ∧
    (t.walk.steps = s.walk.steps ∨ t.walk = Walk.fresh ∨
      (∃ body, c = .driveFeedback body) ∧ (t.walk.steps - s.walk.steps).natAbs = 1))

/-- R118: the stall timer runs exactly while the stall watch is active, at every step, and starts from 0, at a WALK sample
with the lagging cam's progress as its base; at a DRIVE_FEEDBACK an advance of at least 10 starts it again; and
STALL_TIMER_EXPIRY makes WALK_STALL true, unless an alarm that it brings trips the walk and so zeroes r. -/
def Obligations.StallWatchRunsAndReports : Prop :=
  (∀ s t : State, StallWatched s → step s = .next t → StallWatched t) ∧
  (∀ s t : State, s.walk.stallBase ≤ 3599 → step s = .next t → t.walk.stallBase ≤ 3599) ∧
  (∀ (s t : State) (x : Timer), step s = .next t → s.walk.stallTimer = none → t.walk.stallTimer = some x →
    x = ⟨0, t.machine.stallTime⟩) ∧
  (∀ s : State, s.held = false → s.channels.walk.sampleTimer.due = true → WalkTableHeld s → TracksInRange s →
    s.walk.stallTimer = none →
    ∃ t, exec (.channelSample .walk) s = .next t ∧
      ∀ tab d, t.walk.stallTimer ≠ none → t.walk.table = some tab → t.walk.diff = some d →
        t.walk.stallBase ≤ 3599 ∧ ((t.walk.stallBase : Int) - laggingTurn t tab d) % 3600 = 0) ∧
  (∀ (body : List Byte) (s : State) (x : Timer), s.held = false → body.length = driveFeedbackLength → WalkTableHeld s →
    TracksInRange s → StallWatched s → s.walk.stallBase ≤ 3599 → s.walk.stallTimer = some x →
    ∃ t, exec (.driveFeedback body) s = .next t ∧
      ∀ (y : Timer) (tab : PhaseTable) (d off : Int), t.walk.stallTimer = some y → t.walk.table = some tab →
        t.walk.diff = some d → -1800 ≤ off → off ≤ 1799 →
        (off - (laggingTurn t tab d - s.walk.stallBase)) % 3600 = 0 →
        (10 ≤ off.natAbs → y = ⟨0, s.machine.stallTime⟩ ∧ t.walk.stallBase ≤ 3599 ∧
          ((t.walk.stallBase : Int) - laggingTurn t tab d) % 3600 = 0) ∧
        (off.natAbs < 10 → y = x ∧ t.walk.stallBase = s.walk.stallBase)) ∧
  ∀ (s : State) (elapsed limit : Nat), s.held = false → s.walk.stallTimer = some ⟨elapsed, limit⟩ → limit ≤ elapsed →
    ∃ t, exec .stallTimerExpiry s = .next t ∧ t.walk.stallTimer = none ∧
      (t.walk.stall = true ∨ t.channels.walk.r = 0) ∧
      (s.channels.walk.r ≠ 0 → (∀ (n : Fin 64) (d : AlarmDef), s.alarms.defs[n] = some d → d.cls ≠ .trip) →
        t.walk.stall = true) ∧
      AuthorityKept s t

/-- R124, R125: the warning timer runs exactly while the warning sounds under its grant, and the validity timer exactly
under the conditions of R125, at every step, and each starts from 0; WARNING_TIMER_EXPIRY completes the walk warning and
VALIDITY_TIMER_EXPIRY lets it lapse. -/
def Obligations.WarningTimersActOnTheWarning : Prop :=
  (∀ s t : State, WarningNeedsGrant s → WarningInStep s → GrantExact s → step s = .next t → WarningNeedsGrant t) ∧
  (∀ s t : State, ValidityTimed s → step s = .next t → ValidityTimed t) ∧
  (∀ (s t : State) (x : Timer), step s = .next t →
    (s.walk.warnTimer = none → t.walk.warnTimer = some x → x = ⟨0, t.machine.warnTime⟩) ∧
    (s.walk.validTimer = none → t.walk.validTimer = some x → x = ⟨0, t.machine.warnValid⟩)) ∧
  ∀ (s : State) (elapsed limit : Nat), s.held = false → limit ≤ elapsed →
    (s.walk.warnTimer = some ⟨elapsed, limit⟩ →
      ∃ t, exec .warningTimerExpiry s = .next t ∧ t.walk.warnTimer = none ∧ t.walk.warning = .complete ∧
        t.walk.hornRequest = false ∧ hasSource t.records.walk.reasons (.interlock .warningIncomplete) = false ∧
        AuthorityKept { s with walk := { s.walk with warning := .complete, hornRequest := false } } t) ∧
    (s.walk.validTimer = some ⟨elapsed, limit⟩ →
      ∃ t, exec .validityTimerExpiry s = .next t ∧ t.walk.validTimer = none ∧ t.walk.warning = .sounding ∧
        t.walk.hornRequest = true ∧ hasSource t.records.walk.reasons (.interlock .warningIncomplete) = true ∧
        AuthorityKept { s with walk := { s.walk with warning := .sounding, hornRequest := true } } t)

/-- R89, R99, R101, R102, R104, R108, R122, R123, R124, R125: the interlock reasons stand exactly while their causes do,
the two precondition reasons as their gate lets them, and the walk warning stays in step with the selection, at every
step. -/
def Obligations.InterlockReasonsStayMatched : Prop :=
  (∀ s t : State, InterlocksMatch s → WarningInStep s → step s = .next t → InterlocksMatch t ∧ WarningInStep t) ∧
  (∀ s t : State, PluggingMatches s → step s = .next t → PluggingMatches t) ∧
  ∀ s t : State, PreconditionsMatch s → step s = .next t → PreconditionsMatch t

/-- R126: the walk channel's published reference is non-zero only while walk is selected and its warning complete. The
premises are the laws of the other statements. -/
def Obligations.WalkMovesOnlyWarned : Prop :=
  ∀ s t : State, WalkWarned s → InterlocksMatch s → WarningInStep s → GateLaw s → step s = .next t → WalkWarned t

/-! ### Alarms -/

/-- R133, R134, R135: every internal condition is handed on at every step; every defined alarm's raw condition follows
its source, its filtered condition and delay timer follow the raw condition, and its state the filtered one, at every
step; a raw condition is its source's value with the polarity, false while an input has not been received; a change of
the raw condition goes through the delay-on; a change of the filtered condition moves the alarm by the table, with the
count and time of a raise; and ALARM_DELAY_EXPIRY is such a change to true. -/
def Obligations.ConditionChangesMoveTheAlarm : Prop :=
  (∀ s t : State, ConditionsHandedOn s → step s = .next t → ConditionsHandedOn t) ∧
  (∀ s t : State, ConditionsFollowSources s → step s = .next t → ConditionsFollowSources t) ∧
  (∀ s t : State, StatesFollowConditions s → step s = .next t → StatesFollowConditions t) ∧
  (∀ (a : AlarmProc) (d : AlarmDef),
    let seen (v : Bool) : Prop := rawCondition a d = if d.polarity = .activeTrue then v else !v
    (∀ c, d.source = .internal c → seen (a.internals.getLsbD c.val)) ∧
    (∀ i, d.source = .driveInput i → (∀ v, a.driveInputs = some v → seen (v.getLsbD i.val)) ∧
      (a.driveInputs = none → rawCondition a d = false)) ∧
    (∀ i, d.source = .cabInput i → (∀ v, a.cabInputs = some v → seen (v.getLsbD i.val)) ∧
      (a.cabInputs = none → rawCondition a d = false))) ∧
  (∀ (n : Fin 64) (d : AlarmDef) (s : State),
    let old := s.alarms.runs[n]
    let left (r : AlarmRun) : State := { s with alarms := { s.alarms with runs := s.alarms.runs.set n r } }
    (0 < d.delayOn → setRaw n d true s = left { old with raw := true, delay := some ⟨0, d.delayOn * 10⟩ }) ∧
    (d.delayOn = 0 → setRaw n d true s = setFiltered n d true (left { old with raw := true })) ∧
    (old.filtered = false → setRaw n d false s = left { old with raw := false, delay := none }) ∧
    (old.filtered = true → setRaw n d false s = setFiltered n d false (left { old with raw := false, delay := none }))) ∧
  (∀ (n : Fin 64) (d : AlarmDef) (v : Bool) (s : State),
    let old := s.alarms.runs[n]
    let raised := v && (decide (old.state = .normal) || decide (old.state = .returned) || decide (old.state = .latched))
    let t := setFiltered n d v s
    t.alarms.runs[n] = { old with
      state := if raised then .raised
        else if v then old.state
        else match old.state with
          | .raised => .returned
          | .held => if d.latching then .latched else .normal
          | other => other,
      filtered := v, delay := none,
      count := if raised then min (old.count + 1) 255 else old.count,
      lastRaise := if raised then some s.ctl.time else old.lastRaise } ∧
    (∀ k : Fin 64, k ≠ n → t.alarms.runs[k] = s.alarms.runs[k])) ∧
  (∀ (n : Fin 64) (d : AlarmDef) (elapsed limit : Nat) (s : State), s.held = false → s.alarms.defs[n] = some d →
    (s.alarms.runs[n]).delay = some ⟨elapsed, limit⟩ → limit ≤ elapsed →
    ∃ t, exec (.alarmDelayExpiry n) s = .next t ∧ AuthorityKept s t ∧
      (ConditionsSettled s → t.alarms.runs = (setFiltered n d true s).alarms.runs))

/-- R137, R138: ALARM_ACK and ALARM_RESET of one alarm or of ALL; and R136, R144: what a CAB_COMMAND does to the alarms
by the rising edges of its three buttons, where no condition of theirs changes with it; and those edges by themselves,
which act one after another in some order, the acknowledge and reset edges as on ALL. -/
def Obligations.AcknowledgeAndResetMoveTheNamedAlarms : Prop :=
  (∀ (body : List Byte) (s : State), s.held = false → body.length = cabCommandLength → ConditionsSettled s →
    s.links.cab.lost = false → s.alarms.cabInputs = some (cabFrameOf body).inputs →
    (∀ n : Fin 64, s.alarms.defs[n] = none → (s.alarms.runs[n]).state = .normal) →
    let f := cabFrameOf body
    let ackEdge := f.ack = true ∧ s.alarms.lastButtons.map Buttons.ack = some false
    let resetEdge := f.reset = true ∧ s.alarms.lastButtons.map Buttons.reset = some false
    let silenceEdge := f.silence = true ∧ s.alarms.lastButtons.map Buttons.silence = some false
    let acked (n : Fin 64) (st : AlarmState) : AlarmState :=
      match st with
      | .raised => .held
      | .returned => if (s.alarms.defs[n]).any AlarmDef.latching then .latched else .normal
      | other => other
    let cleared (st : AlarmState) : AlarmState := if st = .latched then .normal else st
    let left (n : Fin 64) (st : AlarmState) (t : State) : Prop := t.alarms.runs[n] = { s.alarms.runs[n] with state := st }
    ∃ t, exec (.cabCommand body) s = .next t ∧
      (¬ackEdge → ¬resetEdge → ∀ n : Fin 64, t.alarms.runs[n] = s.alarms.runs[n]) ∧
      (ackEdge → ¬resetEdge → ∀ n : Fin 64, left n (acked n (s.alarms.runs[n]).state) t) ∧
      (¬ackEdge → resetEdge → ∀ n : Fin 64, left n (cleared (s.alarms.runs[n]).state) t) ∧
      (ackEdge → resetEdge →
        (∀ n : Fin 64, left n (cleared (acked n (s.alarms.runs[n]).state)) t) ∨
        ∀ n : Fin 64, left n (acked n (cleared (s.alarms.runs[n]).state)) t) ∧
      (silenceEdge → t.alarms.silence = true) ∧ (¬silenceEdge → t.alarms.silence = s.alarms.silence)) ∧
  (∀ (dest : Dest) (code : Nat) (s : State), code < 256 → 64 ≤ code → code ≠ 255 →
    (Takes dest 0x2A#8 [byteOf code] s →
      exec (.alarmAck dest [byteOf code]) s = .next (answered dest 0x2A#8 .outOfRange [] s)) ∧
    (Takes dest 0x2B#8 [byteOf code] s →
      exec (.alarmReset dest [byteOf code]) s = .next (answered dest 0x2B#8 .outOfRange [] s))) ∧
  (∀ (dest : Dest) (code : Nat) (s : State), code < 64 ∨ code = 255 →
    (∀ n : Fin 64, s.alarms.defs[n] = none → (s.alarms.runs[n]).state = .normal) →
    let named (n : Fin 64) : Prop := code = 255 ∨ n.val = code
    (Takes dest 0x2A#8 [byteOf code] s →
      ((∀ n, named n → unacknowledged s.alarms n = false) →
        exec (.alarmAck dest [byteOf code]) s = .next (answered dest 0x2A#8 .noChange [] s)) ∧
      ((∃ n, named n ∧ unacknowledged s.alarms n = true) →
        ∃ t, exec (.alarmAck dest [byteOf code]) s = .next t ∧ AuthorityKept (answered dest 0x2A#8 .accepted [] s) t ∧
          (ConditionsSettled s → ∀ n : Fin 64, t.alarms.runs[n] = { s.alarms.runs[n] with
            state := if code = 255 ∨ n.val = code then
                match (s.alarms.runs[n]).state with
                | .raised => .held
                | .returned => if (s.alarms.defs[n]).any AlarmDef.latching then .latched else .normal
                | other => other
              else (s.alarms.runs[n]).state }))) ∧
    (Takes dest 0x2B#8 [byteOf code] s →
      ((∀ n, named n → (s.alarms.runs[n]).state ≠ .latched) →
        exec (.alarmReset dest [byteOf code]) s = .next (answered dest 0x2B#8 .noChange [] s)) ∧
      ((∃ n, named n ∧ (s.alarms.runs[n]).state = .latched) →
        ∃ t, exec (.alarmReset dest [byteOf code]) s = .next t ∧ AuthorityKept (answered dest 0x2B#8 .accepted [] s) t ∧
          (ConditionsSettled s → ∀ n : Fin 64, t.alarms.runs[n] = { s.alarms.runs[n] with
            state := if (code = 255 ∨ n.val = code) ∧ (s.alarms.runs[n]).state = .latched then .normal
              else (s.alarms.runs[n]).state })))) ∧
  (∀ (b : Buttons) (s : State), ∃ edges : List CabButton, edges.Nodup ∧
    (CabButton.ack ∈ edges ↔ b.ack = true ∧ s.alarms.lastButtons.map Buttons.ack = some false) ∧
    (CabButton.reset ∈ edges ↔ b.reset = true ∧ s.alarms.lastButtons.map Buttons.reset = some false) ∧
    (CabButton.silence ∈ edges ↔ b.silence = true ∧ s.alarms.lastButtons.map Buttons.silence = some false) ∧
    takeButtons b s = edges.foldl (fun t x => pressButton x t)
      { s with freeIx := s.freeIx + 1, alarms := { s.alarms with lastButtons := some b } }) ∧
  ∀ s : State, (∀ n : Fin 64, s.alarms.defs[n] = none → (s.alarms.runs[n]).state = .normal) →
    AuthorityKept s (pressButton .ack s) ∧ AuthorityKept s (pressButton .reset s) ∧
    AuthorityKept s (pressButton .silence s) ∧
    (∀ n : Fin 64, (pressButton .ack s).alarms.runs[n] = { s.alarms.runs[n] with
      state := match (s.alarms.runs[n]).state with
        | .raised => .held
        | .returned => if (s.alarms.defs[n]).any AlarmDef.latching then .latched else .normal
        | other => other }) ∧
    (∀ n : Fin 64, (pressButton .reset s).alarms.runs[n] = { s.alarms.runs[n] with
      state := if (s.alarms.runs[n]).state = .latched then .normal else (s.alarms.runs[n]).state }) ∧
    (pressButton .ack s).alarms.silence = s.alarms.silence ∧ (pressButton .reset s).alarms.silence = s.alarms.silence ∧
    (pressButton .silence s).alarms = { s.alarms with silence := true, hornRequest := false }

/-- R143: ALARM_SHELVE and ALARM_UNSHELVE, and SHELVING_EXPIRY once machine time has reached the end (log entry 8 for a
time that lies further on). -/
def Obligations.ShelvingBeginsAndEnds : Prop :=
  (∀ (dest : Dest) (code seconds : Nat) (s : State), code < 256 → seconds < 65536 →
    Takes dest 0x2C#8 (byteOf code :: le16 seconds) s →
    ((64 ≤ code ∨ seconds = 0 ∨ 3600 < seconds) →
      exec (.alarmShelve dest (byteOf code :: le16 seconds)) s = .next (answered dest 0x2C#8 .outOfRange [] s)) ∧
    (1 ≤ seconds → seconds ≤ 3600 → ∀ n : Fin 64, n.val = code →
      ((∀ d, s.alarms.defs[n] = some d → d.cls = .stop ∨ d.cls = .trip) →
        exec (.alarmShelve dest (byteOf code :: le16 seconds)) s = .next (answered dest 0x2C#8 .notPermitted [] s)) ∧
      (∀ d, s.alarms.defs[n] = some d → d.cls ≠ .stop → d.cls ≠ .trip →
        ∃ t, exec (.alarmShelve dest (byteOf code :: le16 seconds)) s = .next t ∧
          AuthorityKept (answered dest 0x2C#8 .accepted [] s) t ∧ t.records = s.records ∧ t.alarms.active = s.alarms.active ∧
          t.alarms.hornRequest = hornCause t.alarms ∧
          t.alarms.runs = s.alarms.runs.set n { s.alarms.runs[n] with
            shelvedUntil := some (s.ctl.time + BitVec.ofNat 32 (seconds * 100)) }))) ∧
  (∀ (dest : Dest) (code : Nat) (s : State), code < 256 → Takes dest 0x2D#8 [byteOf code] s →
    (64 ≤ code → exec (.alarmUnshelve dest [byteOf code]) s = .next (answered dest 0x2D#8 .outOfRange [] s)) ∧
    ∀ n : Fin 64, n.val = code →
      ((s.alarms.runs[n]).shelvedUntil = none →
        exec (.alarmUnshelve dest [byteOf code]) s = .next (answered dest 0x2D#8 .noChange [] s)) ∧
      ((s.alarms.runs[n]).shelvedUntil ≠ none →
        ∃ t, exec (.alarmUnshelve dest [byteOf code]) s = .next t ∧
          AuthorityKept (answered dest 0x2D#8 .accepted [] s) t ∧ t.records = s.records ∧ t.alarms.active = s.alarms.active ∧
          t.alarms.hornRequest = hornCause t.alarms ∧
          t.alarms.runs = s.alarms.runs.set n { s.alarms.runs[n] with shelvedUntil := none })) ∧
  (∀ (n : Fin 64) (s : State), s.held = false → (s.alarms.runs[n]).shelvedUntil = some s.ctl.time →
    ∃ t, exec (.shelvingExpiry n) s = .next t ∧ AuthorityKept s t ∧ t.records = s.records ∧
      t.alarms.active = s.alarms.active ∧ t.alarms.hornRequest = hornCause t.alarms ∧
      t.alarms.runs = s.alarms.runs.set n { s.alarms.runs[n] with shelvedUntil := none })

/-- R140, R141, at every step. -/
def Obligations.AlarmListAndFirstOutStayExact : Prop :=
  (∀ s t : State, ActiveListExact s → step s = .next t → ActiveListExact t) ∧
  ∀ s t : State, FirstOutBacked s → step s = .next t → FirstOutBacked t

/-- R139: an alarm's reason stands in a record exactly while the alarm is in effect and names the motion, with the
effect of its class, at every step. -/
def Obligations.ConsequencesStayExact : Prop :=
  (∀ s t : State, ConsequencesExact s → step s = .next t → ConsequencesExact t) ∧
  ∀ s t : State, ConsequencesExact s → ConsequenceEffects s → step s = .next t → ConsequenceEffects t

/-- R131, R132, R6, R135, R141, R142: TABLE_WRITE of ALARM_DEF(n), refused OUT_OF_RANGE or LIMIT, or taken; and every
TRIP alarm stays latching (R131). By which definition the first-out rule goes at the rest, and that the horn request is
evaluated after step 6 only, are the model's (log entries 20 and 21). Where the list holds the slot twice, which the law of
the list (AlarmListAndFirstOutStayExact) rules out, nothing is said of it after a raise. -/
def Obligations.AlarmDefinitionWrite : Prop :=
  (∀ s t : State, TripsLatch s → step s = .next t → TripsLatch t) ∧
  (∀ (dest : Dest) (body : List Byte) (s : State), Takes dest 0x20#8 body s → s.ctl.mode = .config →
    writeFits body = true → byteAt body 0 = 4 → 63 < byteAt body 1 ∨ decodeAlarmDef (body.drop 2) = none →
    exec (.tableWriteAlarmDef dest body) s = .next (answered dest 0x20#8 .outOfRange [] s)) ∧
  ∀ (dest : Dest) (n : Fin 64) (d : Option AlarmDef) (body : List Byte) (s : State),
    Takes dest 0x20#8 body s → s.ctl.mode = .config → writeFits body = true → byteAt body 0 = 4 →
    byteAt body 1 = n.val → decodeAlarmDef (body.drop 2) = some d →
    ((∃ m, 20 < motionCount (s.alarms.defs.set n d) m) →
      exec (.tableWriteAlarmDef dest body) s = .next (answered dest 0x20#8 .limit [] s)) ∧
    ((∀ m, motionCount (s.alarms.defs.set n d) m ≤ 20) →
      ∃ t, exec (.tableWriteAlarmDef dest body) s = .next t ∧
        AuthorityKept { answered dest 0x20#8 .accepted [] s with
          alarms := { s.alarms with defs := s.alarms.defs.set n d } } t ∧
        (t.alarms.runs[n]).shelvedUntil = none ∧
        (d = none →
          t.alarms.runs[n] = { s.alarms.runs[n] with
            state := .normal, raw := false, filtered := false, delay := none, shelvedUntil := none } ∧
          t.alarms.firstOut ≠ some n ∧ (s.alarms.active.Nodup → n ∉ t.alarms.active) ∧
          (ConsequencesExact s → ∀ m, hasSource (t.records.get m).reasons (.alarm n) = false)) ∧
        (ConditionsSettled s →
          let old := s.alarms.runs[n]
          let others : Prop := ∃ k, k ≠ n ∧ stopTripActive s.alarms k = true
          let rested (raw : Bool) (delay : Option Timer) : AlarmRun :=
            { old with state := .normal, raw := raw, filtered := false, delay := delay, shelvedUntil := none }
          let markRested : Prop :=
            (s.alarms.firstOut = some n ∨ (stopTripActive s.alarms n = true ∧ ¬others) → t.alarms.firstOut = none) ∧
            (s.alarms.firstOut ≠ some n → stopTripActive s.alarms n = false ∨ others →
              t.alarms.firstOut = s.alarms.firstOut)
          (∀ k : Fin 64, k ≠ n → t.alarms.runs[k] = s.alarms.runs[k]) ∧
          ((∀ x, d = some x → rawCondition s.alarms x = false ∨ 0 < x.delayOn) →
            (d = none → t.alarms.runs[n] = rested false none) ∧
            (∀ x, d = some x → rawCondition s.alarms x = false → t.alarms.runs[n] = rested false none) ∧
            (∀ x, d = some x → rawCondition s.alarms x = true →
              t.alarms.runs[n] = rested true (some ⟨0, x.delayOn * 10⟩)) ∧
            t.alarms.active = s.alarms.active.erase n ∧ markRested ∧ t.alarms.trip = s.alarms.trip ∧
            t.alarms.silence = s.alarms.silence ∧
            (ConsequencesExact s → ∀ m, hasSource (t.records.get m).reasons (.alarm n) = false)) ∧
          (∀ x, d = some x → rawCondition s.alarms x = true → x.delayOn = 0 →
            t.alarms.runs[n] = { old with
              state := .raised, raw := true, filtered := true, delay := none, count := min (old.count + 1) 255,
              lastRaise := some s.ctl.time, shelvedUntil := none } ∧
            (s.alarms.active.Nodup → t.alarms.active = s.alarms.active.erase n ++ [n]) ∧
            ((x.cls = .stop ∨ x.cls = .trip) ∧ ¬others → t.alarms.firstOut = some n) ∧
            ((x.cls ≠ .stop ∧ x.cls ≠ .trip) ∨ others → markRested) ∧
            (x.cls = .trip ∧ ¬others → t.alarms.trip =
              some ⟨n, s.ctl.time, s.channels.map Channel.r, s.tracker.axes.map Track.pos⟩) ∧
            (x.cls ≠ .trip ∨ others → t.alarms.trip = s.alarms.trip) ∧
            (t.alarms.silence = if x.horn then false else s.alarms.silence) ∧
            (ConsequencesExact s → ∀ m, hasSource (t.records.get m).reasons (.alarm n) =
              (!x.cls.isAdvisory && x.motions.get m)))))

/-! ### Lamps, horn and beacon -/

/-- R145, R153, R156, R157, R158: the alarm horn request, the grant with its generator, and the beacon generator follow
their requests, and the generators run as R153 has them, at every step. -/
def Obligations.HornAndBeaconFollowTheirRequests : Prop :=
  (∀ s t : State, HornRequestExact s → step s = .next t → HornRequestExact t) ∧
  (∀ s t : State, GrantExact s → step s = .next t → GrantExact t) ∧
  (∀ s t : State, BeaconExact s → step s = .next t → BeaconExact t) ∧
  ∀ s t : State, GeneratorsRun s → GrantExact s → BeaconExact s → step s = .next t → GeneratorsRun t

/-- R153: CADENCE_HALF_EXPIRY. The horn generator runs under a grant, with its requester's pattern. -/
def Obligations.CadenceHalfExpiryChangesTheHalf : Prop :=
  ∀ (g : GenId) (p : Pattern) (s : State) (elapsed limit : Nat), s.held = false → limit ≤ elapsed →
    (s.ann.gens.get g).half = some ⟨elapsed, limit⟩ →
    (g = .fastLamp → p = s.ann.patterns.fast) → (g = .slowLamp → p = s.ann.patterns.slow) →
    (g = .beacon → p = s.ann.patterns.beacon) →
    (g = .horn → (s.ann.grant = some .alarm ∧ p = s.ann.patterns.alarm) ∨
      (s.ann.grant = some .walk ∧ p = s.ann.patterns.walk) ∨ (s.ann.grant = some .operator ∧ p = s.ann.patterns.operator)) →
    let old := s.ann.gens.get g
    let new : Gen := { old with
      onHalf := !old.onHalf,
      half := some ⟨0, if old.onHalf then (p.offCount + 1) * 2 ^ p.scale else (p.onCount + 1) * 2 ^ p.scale⟩ }
    exec (.cadenceHalfExpiry g) s = .next { s with ann := { s.ann with gens := s.ann.gens.set g new } }

/-- R150: a lamp's state is the first in the table whose condition holds among the mapped, unshelved alarms, whatever the
lamp test and lamp dark settings. With R151, R153, R157, R158: the outputs of a running part. -/
def Obligations.LampStatesAndOutputs : Prop :=
  (∀ s : State, s.held = false →
    let on (g : Gen) : Prop := g.running = true ∧ g.onHalf = true
    (∀ lamp : Fin 48,
      (s.ann.lampTest = true → lampOutput s lamp = true) ∧
      (s.ann.lampTest = false → s.ann.lampDark = true → lampOutput s lamp = false) ∧
      (s.ann.lampTest = false → s.ann.lampDark = false →
        (lampState s lamp = .fast → (lampOutput s lamp = true ↔ on s.ann.gens.fastLamp)) ∧
        (lampState s lamp = .slow → (lampOutput s lamp = true ↔ on s.ann.gens.slowLamp)) ∧
        (lampState s lamp = .steady → lampOutput s lamp = true) ∧
        (lampState s lamp = .off → lampOutput s lamp = false))) ∧
    (hornOutput s = true ↔ on s.ann.gens.horn) ∧
    (beaconOutput s = true ↔ s.swing.beaconRequest = true ∧ on s.ann.gens.beacon)) ∧
  ∀ (s : State) (lamp : Fin 48),
    let among (q : AlarmState → Fin 64 → Prop) : Prop :=
      ∃ n ∈ s.ann.lampMap[lamp], (s.alarms.runs[n]).shelvedUntil = none ∧ q (s.alarms.runs[n]).state n
    let fast := among (fun st _ => st = .raised)
    let slow := among (fun st n => st = .returned ∨ (s.alarms.firstOut = some n ∧ st ≠ .normal))
    let steady := among (fun st _ => st = .held ∨ st = .latched)
    (lampState s lamp = .fast ↔ fast) ∧ (lampState s lamp = .slow ↔ ¬fast ∧ slow) ∧
      (lampState s lamp = .steady ↔ ¬fast ∧ ¬slow ∧ steady) ∧ (lampState s lamp = .off ↔ ¬fast ∧ ¬slow ∧ ¬steady) ∧
      ∀ test dark : Bool,
        lampState { s with ann := { s.ann with lampTest := test, lampDark := dark } } lamp = lampState s lamp

/-- R151: LAMP_DARK with on, off or any other value. -/
def Obligations.LampDarkRequest : Prop :=
  ∀ (dest : Dest) (code : Nat) (s : State), code < 256 → Takes dest 0x30#8 [byteOf code] s →
    (2 ≤ code → exec (.lampDark dest [byteOf code]) s = .next (answered dest 0x30#8 .outOfRange [] s)) ∧
    ∀ b : Bool, code = b.toNat →
      exec (.lampDark dest [byteOf code]) s =
        .next (answered dest 0x30#8 (if s.ann.lampDark = b then .noChange else .accepted) []
          { s with ann := { s.ann with lampDark := b } })

/-! ### Modes -/

/-- R64, R162, R163: the check figure of a channel's parameters, and GO in CONFIG, by the step at which the procedure
stands or ends, with the first shortfall in the order of examination as the item. The sum that the fixed arithmetic test
delivers is a free value (log entry 3): the command completes
whichever it is. -/
def Obligations.GoRunsTheCheck : Prop :=
  (∀ p : ChannelParams, p.taps.length = 8 → ∃ g y : Nat → Int,
    (∀ i, i < 8 → RoundedLimited (deadband p.db ([0, 500, 1000, 1000, 0, -1000, -500, 0].getD i 0) * unitsOf p.gain) (g i) ∧
      RoundedLimited ((List.range (i + 1)).map (fun j => unitsOf (p.taps.getD j []) * g (i - j))).sum (y i)) ∧
    (checkFigure p : Int) = ((List.range 8).map y).sum % 65536) ∧
  (∀ (s : State) (item : IncompleteItem), shortfall s = some item ↔
    ItemShort s item ∧ ∀ earlier, itemPlace earlier < itemPlace item → ¬ItemShort s earlier) ∧
  (∀ s : State, shortfall s = none ↔
    s.zones.hoist ≠ [] ∧ s.zones.drag ≠ [] ∧ s.zones.swing ≠ [] ∧ s.walk.table ≠ none ∧
    (∀ c : Fin 20, ∃ (n : Fin 64) (d : AlarmDef), s.alarms.defs[n] = some d ∧ d.source = .internal c) ∧
    ∀ (c : Fin 20) (n : Fin 64) (d : AlarmDef), c.val ≤ 9 ∨ 18 ≤ c.val → s.alarms.defs[n] = some d →
      d.source = .internal c → d.cls = .stop ∨ d.cls = .trip) ∧
  ∀ (dest : Dest) (body : List Byte) (s : State), body.length = 8 → Takes dest 0x27#8 body s → s.ctl.mode = .config →
    let figures : PerMotion Nat := ⟨wordAt body 0, wordAt body 2, wordAt body 4, wordAt body 6⟩
    (∀ item, shortfall s = some item →
      exec (.go dest body) s = .next (answered dest 0x27#8 .accepted [] { s with
        ctl := { s.ctl with figures := figures, check := .tableIncomplete item, settleTimer := none } })) ∧
    (shortfall s = none → ∃ t, exec (.go dest body) s = .next (answered dest 0x27#8 .accepted [] t) ∧
      (Config.testSum s.freeIx ≠ 974 → t = { s with
        freeIx := s.freeIx + 1,
        ctl := { s.ctl with mode := .lockout, figures := figures, check := .arithmeticFault, settleTimer := none } }) ∧
      (Config.testSum s.freeIx = 974 →
        (∀ m, (∀ m', Motion.code m' < Motion.code m → checkFigure (s.channels.get m').params = figures.get m') →
          checkFigure (s.channels.get m).params ≠ figures.get m → t = { s with
            freeIx := s.freeIx + 1,
            ctl := { s.ctl with figures := figures, check := .checkMismatch m, settleTimer := none } }) ∧
        ((∀ m, checkFigure (s.channels.get m).params = figures.get m) →
          (s.links.drive.lost = true → t = { s with
            freeIx := s.freeIx + 1,
            ctl := { s.ctl with figures := figures, check := .driveLinkDown, settleTimer := none,
                                feedbackSeen := false } }) ∧
          (s.links.drive.lost = false → t = { s with
            freeIx := s.freeIx + 1,
            ctl := { s.ctl with mode := .check, figures := figures, check := .checking, settleTimer := some ⟨0, 200⟩,
                                feedbackSeen := false } }))))

/-- R163, R164: SETTLE_TIMER_EXPIRY and ABORT_CHECK end the procedure in CONFIG. -/
def Obligations.CheckEndsInConfig : Prop :=
  (∀ (s : State) (elapsed limit : Nat), s.held = false → s.ctl.settleTimer = some ⟨elapsed, limit⟩ → limit ≤ elapsed →
    exec .settleTimerExpiry s = .next { s with ctl := { s.ctl with
      mode := .config, settleTimer := none,
      check := if s.ctl.feedbackSeen then .brakesNotConfirmed else .driveLinkDown } }) ∧
  ∀ (dest : Dest) (s : State), Takes dest 0x28#8 [] s → s.ctl.mode = .check →
    exec (.abortCheck dest []) s = .next (answered dest 0x28#8 .accepted [] { s with ctl := { s.ctl with
      mode := .config, settleTimer := none, check := .aborted } })

/-- R161, R165, R166: STOP_RUN and TEST_TIMER_EXPIRY in READY. The sum that the fixed arithmetic test delivers is a free
value (log entry 3). -/
def Obligations.ReadyIsLeft : Prop :=
  (∀ (dest : Dest) (s : State), Takes dest 0x29#8 [] s → s.ctl.mode = .ready →
    ((∃ m, (s.brakes.get m).state ≠ .set ∨ (s.channels.get m).r ≠ 0) →
      exec (.stopRun dest []) s = .next (answered dest 0x29#8 .busy [] s)) ∧
    ((∀ m, (s.brakes.get m).state = .set ∧ (s.channels.get m).r = 0) →
      ∃ t, exec (.stopRun dest []) s = .next t ∧
        AuthorityKept { answered dest 0x29#8 .accepted [] s with
          ctl := { s.ctl with mode := .config, testTimer := none } } t ∧
        (∀ m, hasSource (t.records.get m).reasons .notRunning = true) ∧
        (EffectsAsCatalogued s → ∀ m, t.permit m = .tripped))) ∧
  (∀ (s : State) (elapsed limit : Nat), s.held = false → s.ctl.testTimer = some ⟨elapsed, limit⟩ → limit ≤ elapsed →
    ∃ t, exec .testTimerExpiry s = .next t ∧
      (Config.testSum s.freeIx = 974 →
        t = { s with freeIx := s.freeIx + 1, ctl := { s.ctl with testTimer := some ⟨0, 100⟩ } }) ∧
      (Config.testSum s.freeIx ≠ 974 →
        AuthorityKept { s with ctl := { s.ctl with mode := .lockout, check := .arithmeticFault, testTimer := none } } t ∧
        (∀ m, hasSource (t.records.get m).reasons .notRunning = true) ∧
        (GateLaw s → ∀ m, t.permit m = .tripped ∧ (t.channels.get m).r = 0 ∧ releaseRequest t m = false)))

/-- R160, R67: MACHINE_TIME_TICK advances machine time and every running timer by one unit, and nothing else. That a timer
stands at its limit until its expiry is taken is the model's choice (log entry 8). -/
def Obligations.TickAdvancesTheTimers : Prop :=
  ∀ s : State, s.held = false →
    let ticked (x : Option Timer) : Option Timer := x.map (fun y => ⟨min (y.elapsed + 1) y.limit, y.limit⟩)
    ∃ t, exec .machineTimeTick s = .next t ∧
      t.ctl.time.toNat = (s.ctl.time.toNat + 1) % 4294967296 ∧
      t.ctl = { s.ctl with time := t.ctl.time, settleTimer := ticked s.ctl.settleTimer, testTimer := ticked s.ctl.testTimer } ∧
      (∀ m, t.channels.get m = { s.channels.get m with
        sampleTimer := ⟨min ((s.channels.get m).sampleTimer.elapsed + 1) (s.channels.get m).sampleTimer.limit,
          (s.channels.get m).sampleTimer.limit⟩ }) ∧
      (∀ m, t.brakes.get m = { s.brakes.get m with
        releaseTimer := ticked (s.brakes.get m).releaseTimer, setTimer := ticked (s.brakes.get m).setTimer,
        holdTimer := ticked (s.brakes.get m).holdTimer }) ∧
      t.walk = { s.walk with stallTimer := ticked s.walk.stallTimer, warnTimer := ticked s.walk.warnTimer,
                             validTimer := ticked s.walk.validTimer } ∧
      (∀ n : Fin 64, t.alarms.runs[n] = { s.alarms.runs[n] with delay := ticked (s.alarms.runs[n]).delay }) ∧
      { t.alarms with runs := s.alarms.runs } = s.alarms ∧
      (∀ g, t.ann.gens.get g = { s.ann.gens.get g with half := ticked (s.ann.gens.get g).half }) ∧
      { t.ann with gens := s.ann.gens } = s.ann ∧
      t.links = { s.links with
        cab := { s.links.cab with fresh := ticked s.links.cab.fresh },
        drive := { s.links.drive with fresh := ticked s.links.drive.fresh },
        refTimer := ⟨min (s.links.refTimer.elapsed + 1) s.links.refTimer.limit, s.links.refTimer.limit⟩ } ∧
      { t with ctl := s.ctl, channels := s.channels, brakes := s.brakes, walk := s.walk, alarms := s.alarms, ann := s.ann,
               links := s.links } = s

/-- R23: HOLD_SET and HOLD_CLEAR of a motion set. -/
def Obligations.MonitorHoldsFollowTheRequests : Prop :=
  ∀ (dest : Dest) (want : Bool) (set : PerMotion Bool) (s : State),
    let kind : Byte := if want then 0x2E#8 else 0x2F#8
    let body := [motionSetByte set]
    let c : Instr := if want then .holdSet dest body else .holdClear dest body
    Takes dest kind body s →
    ((∀ m, set.get m = false) → exec c s = .next (answered dest kind .outOfRange [] s)) ∧
    ((∃ m, set.get m = true) → (∀ m, set.get m = true → hasSource (s.records.get m).reasons (.hold .monitor) = want) →
      exec c s = .next (answered dest kind .noChange [] s)) ∧
    ((∃ m, set.get m = true ∧ hasSource (s.records.get m).reasons (.hold .monitor) ≠ want) →
      ∃ t, exec c s = .next t ∧ AuthorityKept (answered dest kind .accepted [] s) t ∧
        ∀ m, hasSource (t.records.get m).reasons (.hold .monitor) =
          if set.get m then want else hasSource (s.records.get m).reasons (.hold .monitor))

/-! ### The links -/

/-- R171, R172: FRAME_CHECK_FAILED counts the frame of its line once, under the first check that it fails; the four link
checks in order; what each port makes of a frame that passes them, by address, kind, length and buffer; and a frame is
found too long as its 125th byte arrives, with no end to it. How a frame with bits short of a byte is counted is the
model's choice (log entry 14). -/
def Obligations.FailedFrameIsCountedOnce : Prop :=
  (∀ (p : Port) (bits : List Bool) (s : State), s.held = false → noSixOnes 0 bits = true →
    125 ≤ (bytesOf (removeZeros 0 bits)).length →
    ∃ t, exec (.frameCheckFailed p (flagBits ++ bits)) s = .next t ∧ CountedOnce p .long s t) ∧
  (∀ (p : Port) (line : List Bool) (rx : RxFrame) (s : State), s.held = false → framesOn line = [rx] →
    (failedCheck p rx s = none → exec (.frameCheckFailed p line) s = .next s) ∧
    ∀ c, failedCheck p rx s = some c → ∃ t, exec (.frameCheckFailed p line) s = .next t ∧ CountedOnce p c s t) ∧
  (∀ (f : Frame) (s : State), s.held = false → f.body.length ≤ 120 →
    (f.address ≠ 0x01#8 → exec (.frameCheckFailed .cab (lineBits f)) s = .next s) ∧
    (f.address = 0x01#8 → f.kind = 0x01#8 → f.body.length = 12 → exec (.frameCheckFailed .cab (lineBits f)) s = .next s) ∧
    (f.address = 0x01#8 → f.kind ≠ 0x01#8 ∨ f.body.length ≠ 12 →
      ∃ t, exec (.frameCheckFailed .cab (lineBits f)) s = .next t ∧ CountedOnce .cab .format s t) ∧
    (f.address ≠ 0x02#8 → exec (.frameCheckFailed .drive (lineBits f)) s = .next s) ∧
    (f.address = 0x02#8 → f.kind = 0x02#8 → f.body.length = 33 →
      exec (.frameCheckFailed .drive (lineBits f)) s = .next s) ∧
    (f.address = 0x02#8 → f.kind ≠ 0x02#8 ∨ f.body.length ≠ 33 →
      ∃ t, exec (.frameCheckFailed .drive (lineBits f)) s = .next t ∧ CountedOnce .drive .format s t) ∧
    (let addressed := f.address = byteOf (0x10 + s.links.station.val) ∨ f.address = 0xFF#8
     (¬addressed ∨ s.links.monitor.buffer.length < 2 → exec (.frameCheckFailed .monitor (lineBits f)) s = .next s) ∧
     (addressed → 2 ≤ s.links.monitor.buffer.length →
       ∃ t, exec (.frameCheckFailed .monitor (lineBits f)) s = .next t ∧ CountedOnce .monitor .overrun s t))) ∧
  ∀ (bits : List Bool) (aborted : Bool),
    let bytes := bytesOf (removeZeros 0 bits)
    (aborted = false → 1 ≤ bytes.length → bytes.length ≤ 3 → linkCheck ⟨bits, aborted⟩ = .failed .runt) ∧
    (125 ≤ bytes.length → linkCheck ⟨bits, aborted⟩ = .failed .long) ∧
    (aborted = true → 1 ≤ bytes.length → bytes.length ≤ 124 → linkCheck ⟨bits, aborted⟩ = .failed .aborted) ∧
    (aborted = false → 4 ≤ bytes.length → bytes.length ≤ 124 →
      (removeZeros 0 bits).length % 8 ≠ 0 ∨
        bytes.drop (bytes.length - 2) ≠ le16 (fcsOf (bytes.take (bytes.length - 2))).toNat →
      linkCheck ⟨bits, aborted⟩ = .failed .badFcs)

/-- R172, R177: MONITOR_FRAME_RECEIVED at a full and at a free buffer, and MONITOR_RESPONSE_SENT but for the response to
an accepted RESTART. -/
def Obligations.MonitorBufferHoldsTwo : Prop :=
  (∀ (address kind : Byte) (body : List Byte) (s : State), s.held = false → body.length ≤ 120 →
    (address ≠ byteOf (0x10 + s.links.station.val) → address ≠ 0xFF#8 →
      exec (.monitorFrameReceived address kind body) s = .next s) ∧
    ∀ dest : Dest, address = (match dest with | .station => byteOf (0x10 + s.links.station.val) | .broadcast => 0xFF#8) →
      (2 ≤ s.links.monitor.buffer.length →
        ∃ t, exec (.monitorFrameReceived address kind body) s = .next t ∧ CountedOnce .monitor .overrun s t) ∧
      (s.links.monitor.buffer.length < 2 →
        exec (.monitorFrameReceived address kind body) s = .next { s with links := { s.links with
          monitor := { s.links.monitor with buffer := s.links.monitor.buffer ++ [⟨dest, kind, body⟩] } } })) ∧
  ∀ (n : Fin 16) (r : Response) (s : State), s.held = false → s.links.monitor.response = some r →
    ¬(r.kind = 0x32#8 ∧ r.code = .accepted) →
    exec (.monitorResponseSent n) s = .next { s with links := { s.links with
      monitor := { s.links.monitor with buffer := s.links.monitor.buffer.tail, response := none } } }

/-- R171, R178, R182: UNKNOWN_KIND and BAD_FORMAT are answered and counted under FORMAT; a body is judged BAD_FORMAT
exactly where it does not fit its kind. Which bodies fit rests in part on the model's reading (log entry 12: an absent
term place other than 0x00, bits that carry no field, the disregarded bytes of an empty slot, ZONES of an axis without a
zone table), and that the row has no effect on a body that fits, on log entry 9. -/
def Obligations.UnjudgeableRequestsAreCounted : Prop :=
  ∀ (dest : Dest) (kind : Byte) (body : List Byte) (s : State), Takes dest kind body s →
    let u : State := { s with links := { s.links with monitor := { s.links.monitor with
      counters := { s.links.monitor.counters with format := min (s.links.monitor.counters.format + 1) 255 } } } }
    ((kind.toNat < 0x20 ∨ 0x32 < kind.toNat) →
      exec (.unknownKind dest kind body) s = .next (answered dest kind .unknownKind [] u)) ∧
    (0x20 ≤ kind.toNat → kind.toNat ≤ 0x32 →
      (¬BodyFits kind body → exec (.badFormat dest kind body) s = .next (answered dest kind .badFormat [] u)) ∧
      (BodyFits kind body → exec (.badFormat dest kind body) s = .next s))

/-- R24, R40, R54, R66, R78, R92, R107, R128, R142, R147, R159, R169, R173, R179, R182: the reads, byte by byte. All but
two change nothing; PEAK_READ and LINK_COUNTERS_READ clear what they return. The bytes of the tables are stated by
TablesSurviveTheirEncoding; the brake part where each brake timer runs in its own state. The argument "none" as 0xFF and
the grouping inside a status part are the model's reading (log entries 11 and 16). -/
def Obligations.ReadsAnswerAndTwoClear : Prop :=
  (∀ (dest : Dest) (x y : Byte) (s : State), Takes dest 0x21#8 [x, y] s →
    exec (.tableRead dest [x, y]) s = .next (match tableCarried s x.toNat y.toNat with
      | some enc => answered dest 0x21#8 .accepted (x :: y :: enc) s
      | none => answered dest 0x21#8 .outOfRange [] s)) ∧
  (∀ (dest : Dest) (x y : Byte) (s : State), Takes dest 0x22#8 [x, y] s →
    (x = 3#8 → BrakeTimersInState s) →
    exec (.statusRead dest [x, y]) s = .next (match statusCarried s x.toNat y.toNat with
      | some data => answered dest 0x22#8 .accepted data s
      | none => answered dest 0x22#8 .outOfRange [] s)) ∧
  (∀ (dest : Dest) (x : Byte) (s : State), Takes dest 0x23#8 [x] s →
    exec (.alarmListRead dest [x]) s = .next (answered dest 0x23#8 .accepted
      ([byteOf s.alarms.active.length, (s.alarms.firstOut.map (fun n => byteOf n.val)).getD 0xFF#8] ++
        ((s.alarms.active.drop x.toNat).take 8).flatMap (alarmCarried s.alarms)) s)) ∧
  (∀ (dest : Dest) (s : State), Takes dest 0x24#8 [] s →
    exec (.tripRecordRead dest []) s = .next (answered dest 0x24#8 .accepted (tripCarried s.alarms.trip) s)) ∧
  (∀ (dest : Dest) (x : Byte) (s : State), Takes dest 0x25#8 [x] s →
    exec (.peakRead dest [x]) s = .next (match motionOfCode x.toNat with
      | some m => answered dest 0x25#8 .accepted (le16 (s.channels.get m).peak ++ le16 (s.channels.get m).sats)
          { s with channels := s.channels.set m { s.channels.get m with peak := 0, sats := 0 } }
      | none => answered dest 0x25#8 .outOfRange [] s)) ∧
  (∀ (dest : Dest) (s : State), Takes dest 0x26#8 [] s →
    let zero : PortCounters := ⟨0, 0, 0, 0, 0⟩
    exec (.linkCountersRead dest []) s = .next (answered dest 0x26#8 .accepted
      ([s.links.cab.counters.runt, s.links.cab.counters.long, s.links.cab.counters.aborted, s.links.cab.counters.badFcs,
        s.links.cab.counters.format, s.links.drive.counters.runt, s.links.drive.counters.long,
        s.links.drive.counters.aborted, s.links.drive.counters.badFcs, s.links.drive.counters.format,
        s.links.monitor.counters.runt, s.links.monitor.counters.long, s.links.monitor.counters.aborted,
        s.links.monitor.counters.badFcs, s.links.monitor.overrun, s.links.monitor.counters.format].map byteOf)
      { s with links := { s.links with
        cab := { s.links.cab with counters := zero }, drive := { s.links.drive with counters := zero },
        monitor := { s.links.monitor with counters := zero, overrun := 0 } } }))

/-- R174, R176, R180, R181: what a CAB_STATUS carries, CAB_STATUS_TX_DONE, and DRIVE_REFERENCE. -/
def Obligations.CyclicFramesAreSent : Prop :=
  (∀ s : State, StatusCarries s (cabStatusBody s)) ∧
  (∀ s : State, s.held = false →
    exec .cabStatusTxDone s = .next { s with links := { s.links with
      cabSending := s.links.cabWaiting, cabWaiting := none } }) ∧
  ∀ s : State, s.held = false → s.links.refTimer.due = true →
    exec .driveReference s = .next { s with links := { s.links with
      refTimer := ⟨0, 1⟩,
      driveSent := some ⟨0x02#8, 0x82#8,
        si16 s.channels.hoist.r ++ si16 s.channels.drag.r ++ si16 s.channels.swing.r ++ si16 s.walk.walkL ++
          si16 s.walk.walkR ++
          [motionSetByte ⟨releaseRequest s .hoist, releaseRequest s .drag, releaseRequest s .swing,
            releaseRequest s .walk⟩, byteOf s.ctl.mode.code]⟩ } }

/-- R28, R48, R151, R155, R163, R175: CAB_LINK_LOST and DRIVE_LINK_LOST. -/
def Obligations.LostLinksAreHandedOn : Prop :=
  (∀ (s : State) (elapsed limit : Nat), s.held = false → s.links.cab.fresh = some ⟨elapsed, limit⟩ → limit ≤ elapsed →
    ∃ t, exec .cabLinkLost s = .next t ∧ (∀ m, (t.channels.get m).armed = false) ∧
      AuthorityKept { s with
        links := { s.links with cab := { s.links.cab with fresh := none, lost := true } },
        ann := { s.ann with lampTest := false, operatorRequest := false } } t) ∧
  ∀ (s : State) (elapsed limit : Nat), s.held = false → s.links.drive.fresh = some ⟨elapsed, limit⟩ → limit ≤ elapsed →
    ∃ t, exec .driveLinkLost s = .next t ∧
      AuthorityKept { s with
        links := { s.links with drive := { s.links.drive with fresh := none, lost := true } },
        tracker := { s.tracker with countsBased := false },
        ctl := if s.ctl.mode = .check then { s.ctl with mode := .config, check := .driveLinkDown, settleTimer := none }
          else s.ctl } t

/-- R178, R179: outside its modes a request is answered WRONG_MODE and changes nothing, whatever its fields; and a write
of an unknown table is out of range. That such a write may come under any of the eight rows is the model's choice (log
entry 10). -/
def Obligations.RefusedRequestsChangeNothing : Prop :=
  (∀ (dest : Dest) (body : List Byte) (s : State) (row : Dest → List Byte → Instr) (identifier : Nat),
    (identifier, row) ∈ [(1, Instr.tableWriteChannel), (2, Instr.tableWriteZones), (3, Instr.tableWriteWalkPhases),
      (4, Instr.tableWriteAlarmDef), (5, Instr.tableWriteLampMap), (6, Instr.tableWritePattern), (7, Instr.tableWriteAxis),
      (8, Instr.tableWriteMachine)] →
    Takes dest 0x20#8 body s → writeFits body = true →
    (byteAt body 0 = identifier ∨ byteAt body 0 = 0 ∨ 8 < byteAt body 0) →
    (s.ctl.mode ≠ .config → exec (row dest body) s = .next (answered dest 0x20#8 .wrongMode [] s)) ∧
    (s.ctl.mode = .config → byteAt body 0 ≠ identifier →
      exec (row dest body) s = .next (answered dest 0x20#8 .outOfRange [] s))) ∧
  (∀ (dest : Dest) (body : List Byte) (s : State), body.length = 8 → Takes dest 0x27#8 body s → s.ctl.mode ≠ .config →
    exec (.go dest body) s = .next (answered dest 0x27#8 .wrongMode [] s)) ∧
  (∀ (dest : Dest) (s : State), Takes dest 0x28#8 [] s → s.ctl.mode ≠ .check →
    exec (.abortCheck dest []) s = .next (answered dest 0x28#8 .wrongMode [] s)) ∧
  (∀ (dest : Dest) (s : State), Takes dest 0x29#8 [] s → s.ctl.mode ≠ .ready →
    exec (.stopRun dest []) s = .next (answered dest 0x29#8 .wrongMode [] s))

/-- R171, R172, R174: the counters, the monitor buffer and the waiting status keep their bounds at every step. -/
def Obligations.LinkBoundsAreKept : Prop :=
  (∀ s t : State, BufferBounded s → step s = .next t → BufferBounded t) ∧
  (∀ s t : State, StatusWaitsBehind s → step s = .next t → StatusWaitsBehind t) ∧
  ∀ s t : State, CountersBounded s → step s = .next t → CountersBounded t

/-- R170: the receiver splits a line at its flags and aborts, a closing flag opening the next frame and an abort
leaving it to wait for a flag (a frame whose 125th byte came before the abort is too long instead); and every frame
that the part can send is received as one frame, which passes the link checks as itself. That the ones of an abort
belong to no frame is the model's reading (log entry 14). -/
def Obligations.FramesSurviveTheLine : Prop :=
  (∀ f : Frame, f.body.length ≤ 120 →
    framesOn (lineBits f) = [⟨insertZeros 0 (bitsOf (frameBytes f)), false⟩] ∧
      linkCheck ⟨insertZeros 0 (bitsOf (frameBytes f)), false⟩ = .frame f ∧
      noSixOnes 0 (insertZeros 0 (bitsOf (frameBytes f))) = true) ∧
  ∀ bits rest : List Bool, noSixOnes 0 bits = true →
    receive ⟨0, some []⟩ (bits ++ flagBits ++ rest) = ⟨bits, false⟩ :: receive ⟨0, some []⟩ rest ∧
    receive ⟨0, none⟩ (bits ++ flagBits ++ rest) = receive ⟨0, some []⟩ rest ∧
    ∀ ones, 7 ≤ ones →
      (bits = [] ∨ bits.getLast? = some false → (bytesOf (removeZeros 0 (bits ++ List.replicate 6 true))).length < 125 →
        receive ⟨0, some []⟩ (bits ++ List.replicate ones true ++ false :: rest) = ⟨bits, true⟩ :: receive ⟨0, none⟩ rest) ∧
      receive ⟨0, none⟩ (List.replicate ones true ++ false :: rest) = receive ⟨0, none⟩ rest

/-- R180, R182, with R11, R12, R14, R26, R43, R44, R68, R80, R95, R109, R110, R131, R149, R152: every table that the
part can hold is read back from its own encoding, and a decoder accepts no table but a held one, with every field as the
bytes carry it; and the bytes of each encoding. That the fields an axis's kind does not carry read back as 0 is R182's;
that they are held at their reset values, log entry 15's. -/
def Obligations.TablesSurviveTheirEncoding : Prop :=
  EncodingsCarry ∧
  ((∀ p, ChannelHeld p → decodeChannel (encodeChannel p) = some p) ∧
    (∀ circular zs, ZonesHeld circular zs → decodeZones circular (encodeZones circular zs) = some zs) ∧
    (∀ t, PhasesHeld t → decodePhases (encodePhases (some t)) = some t) ∧
    (∀ d, (∀ x, d = some x → DefHeld x) → decodeAlarmDef (encodeAlarmDef d) = some d) ∧
    (∀ xs, LampMapHeld xs → decodeLampMap (encodeLampMap xs) = some xs) ∧
    (∀ p, PatternHeld p → decodePattern (encodePattern p) = some p) ∧
    (∀ a p, AxisHeld a p → decodeAxis a (encodeAxis a p) = some p) ∧
    (∀ p, MachineHeld p → decodeMachine (encodeMachine p) = some p)) ∧
  (∀ b p, decodeChannel b = some p ↔
    ChannelHeld p ∧ p.db = wordAt b 0 ∧ p.gain.Perm (carriedTerms (b.drop 2)) ∧
      (∀ i, i < 8 → (p.taps.getD i []).Perm (carriedTerms (b.drop (5 + 3 * i)))) ∧
      p.aUp = wordAt b 29 ∧ p.aDown = wordAt b 31 ∧ p.aStop = wordAt b 33) ∧
  (∀ circular b zs, b.length = 1 + byteAt b 0 * (if circular then 7 else 6) →
    (decodeZones circular b = some zs ↔ ZonesHeld circular zs ∧ b = encodeZones circular zs)) ∧
  (∀ b t, b.length = 36 → (decodePhases b = some t ↔ PhasesHeld t ∧ b = encodePhases (some t))) ∧
  (∀ b, decodeAlarmDef b = some none ↔ byteAt b 0 = 0) ∧
  (∀ b d, b.length = 11 → byteAt b 5 < 16 →
    (decodeAlarmDef b = some (some d) ↔
      DefHeld d ∧ b.take 6 = (encodeAlarmDef (some d)).take 6 ∧ (∀ v, d.cls = .slow v → v = wordAt b 6) ∧
        d.delayOn = byteAt b 8 ∧ byteAt b 9 ≤ 1 ∧ (d.latching = true ↔ byteAt b 9 = 1 ∨ d.cls = .trip) ∧
        byteAt b 10 = d.horn.toNat)) ∧
  (∀ b xs, b.length = 1 + byteAt b 0 → (decodeLampMap b = some xs ↔ LampMapHeld xs ∧ b = encodeLampMap xs)) ∧
  (∀ b p, b.length = 4 → (decodePattern b = some p ↔ PatternHeld p ∧ b = encodePattern p)) ∧
  (∀ a b p, b.length = 14 → (decodeAxis a b = some p ↔ AxisHeld a p ∧ b = encodeAxis a p)) ∧
  ∀ b p, b.length = 62 → (decodeMachine b = some p ↔ MachineHeld p ∧ b = encodeMachine p)

/-- R13, R45, R110, R149: TABLE_WRITE of CHANNEL, ZONES, WALK_PHASES and LAMP_MAP in CONFIG, taken, or refused
OUT_OF_RANGE with nothing changed where the argument is out of range or the table is no held one (what the decoders accept
is stated by TablesSurviveTheirEncoding). That the argument "none" of WALK_PHASES is the byte 0xFF is the model's reading
(log entry 11). -/
def Obligations.MotionTableWrites : Prop :=
  (∀ (dest : Dest) (body : List Byte) (s : State), Takes dest 0x20#8 body s → s.ctl.mode = .config →
    writeFits body = true →
    let argument := byteAt body 1
    let refused := answered dest 0x20#8 .outOfRange [] s
    (byteAt body 0 = 1 → 3 < argument ∨ decodeChannel (body.drop 2) = none →
      exec (.tableWriteChannel dest body) s = .next refused) ∧
    (byteAt body 0 = 2 → 2 < argument ∨ decodeZones (decide (argument = 2)) (body.drop 2) = none →
      exec (.tableWriteZones dest body) s = .next refused) ∧
    (byteAt body 0 = 3 → argument ≠ 0xFF ∨ decodePhases (body.drop 2) = none →
      exec (.tableWriteWalkPhases dest body) s = .next refused) ∧
    (byteAt body 0 = 5 → 47 < argument ∨ decodeLampMap (body.drop 2) = none →
      exec (.tableWriteLampMap dest body) s = .next refused)) ∧
  (∀ (dest : Dest) (m : Motion) (p : ChannelParams) (body : List Byte) (s : State), Takes dest 0x20#8 body s →
    s.ctl.mode = .config → writeFits body = true → byteAt body 0 = 1 → byteAt body 1 = Motion.code m →
    decodeChannel (body.drop 2) = some p →
    exec (.tableWriteChannel dest body) s =
      .next (answered dest 0x20#8 .accepted []
        { s with channels := s.channels.set m { s.channels.get m with params := p } })) ∧
  (∀ (dest : Dest) (code : Nat) (zs : List Zone) (s : State), code ≤ 2 → ZonesHeld (decide (code = 2)) zs →
    s.ctl.mode = .config → Takes dest 0x20#8 (2#8 :: byteOf code :: encodeZones (decide (code = 2)) zs) s →
    exec (.tableWriteZones dest (2#8 :: byteOf code :: encodeZones (decide (code = 2)) zs)) s =
      .next (answered dest 0x20#8 .accepted []
        { s with zones := if code = 0 then { s.zones with hoist := zs } else if code = 1 then { s.zones with drag := zs }
          else { s.zones with swing := zs } })) ∧
  (∀ (dest : Dest) (t : PhaseTable) (s : State), PhasesHeld t → s.ctl.mode = .config →
    Takes dest 0x20#8 (3#8 :: 0xFF#8 :: encodePhases (some t)) s →
    exec (.tableWriteWalkPhases dest (3#8 :: 0xFF#8 :: encodePhases (some t))) s =
      .next (answered dest 0x20#8 .accepted [] { s with walk := { s.walk with
        table := some t,
        left := { s.walk.left with pending := .none, progress := none },
        right := { s.walk.right with pending := .none, progress := none } } })) ∧
  (∀ (dest : Dest) (lamp : Fin 48) (xs : List (Fin 64)) (s : State), LampMapHeld xs → s.ctl.mode = .config →
    Takes dest 0x20#8 (5#8 :: byteOf lamp.val :: encodeLampMap xs) s →
    exec (.tableWriteLampMap dest (5#8 :: byteOf lamp.val :: encodeLampMap xs)) s =
      .next (answered dest 0x20#8 .accepted [] { s with ann := { s.ann with lampMap := s.ann.lampMap.set lamp xs } }))

/-- R26, R37, R68, R95, R152, R154: TABLE_WRITE of PATTERN, AXIS and MACHINE in CONFIG, taken, or refused OUT_OF_RANGE
with nothing changed where the argument is out of range or the table is no held one. That the argument "none" of MACHINE
is the byte 0xFF is the model's reading (log entry 11). The next state of a MACHINE write is given whole: the table, and
the cap of a STEER_LIMIT that stands; no timer is restarted, stopped or shortened (R68, R109). -/
def Obligations.ParameterTableWrites : Prop :=
  (∀ (dest : Dest) (body : List Byte) (s : State), Takes dest 0x20#8 body s → s.ctl.mode = .config →
    writeFits body = true →
    let argument := byteAt body 1
    let refused := answered dest 0x20#8 .outOfRange [] s
    (byteAt body 0 = 6 → 5 < argument ∨ decodePattern (body.drop 2) = none →
      exec (.tableWritePattern dest body) s = .next refused) ∧
    (byteAt body 0 = 7 → 4 < argument ∨ (∃ a, axisOfCode argument = some a ∧ decodeAxis a (body.drop 2) = none) →
      exec (.tableWriteAxis dest body) s = .next refused) ∧
    (byteAt body 0 = 8 → argument ≠ 0xFF ∨ decodeMachine (body.drop 2) = none →
      exec (.tableWriteMachine dest body) s = .next refused)) ∧
  (∀ (dest : Dest) (code : Nat) (n : PatternId) (p : Pattern) (s : State), patternOfCode code = some n → PatternHeld p →
    s.ctl.mode = .config → Takes dest 0x20#8 (6#8 :: byteOf code :: encodePattern p) s →
    ∃ t, exec (.tableWritePattern dest (6#8 :: byteOf code :: encodePattern p)) s = .next t ∧
      t.ann.patterns = s.ann.patterns.put n p ∧
      (∀ g, t.ann.gens.get g =
        if (g = .fastLamp ∧ n = .fast) ∨ (g = .slowLamp ∧ n = .slow) ∨
            (g = .beacon ∧ n = .beacon ∧ s.ann.gens.beacon.running = true) ∨
            (g = .horn ∧ s.ann.grant.map Requester.pattern = some n) then
          ⟨true, true, if p.steady then none else some ⟨0, (p.onCount + 1) * 2 ^ p.scale⟩⟩
        else s.ann.gens.get g) ∧
      { t with ann := { t.ann with patterns := s.ann.patterns, gens := s.ann.gens } } =
        answered dest 0x20#8 .accepted [] s) ∧
  (∀ (dest : Dest) (code : Nat) (a : Axis) (p : AxisParams) (s : State), axisOfCode code = some a → AxisHeld a p →
    s.ctl.mode = .config → Takes dest 0x20#8 (7#8 :: byteOf code :: encodeAxis a p) s →
    let old := s.axisParams.get a
    let track := s.tracker.axes.get a
    let new := if old.polarity = p.polarity ∧ old.u = p.u ∧ old.v = p.v ∧ old.n = p.n then track
      else { track with acc := 0, base := track.pos, referenced := false, overRange := false }
    exec (.tableWriteAxis dest (7#8 :: byteOf code :: encodeAxis a p)) s =
      .next (answered dest 0x20#8 .accepted [] { s with
        axisParams := s.axisParams.set a p,
        tracker := { s.tracker with axes := s.tracker.axes.set a new } })) ∧
  (∀ (dest : Dest) (p : MachineParams) (s : State), MachineHeld p → s.ctl.mode = .config →
    Takes dest 0x20#8 (8#8 :: 0xFF#8 :: encodeMachine p) s →
    let updated (e : Reason) : Reason :=
      if e.source = .interlock .steerLimit then
        match e.effect with
        | .cap _ _ => { e with effect := .cap p.steerCap .both }
        | _ => e
      else e
    exec (.tableWriteMachine dest (8#8 :: 0xFF#8 :: encodeMachine p)) s =
      .next (answered dest 0x20#8 .accepted [] { s with
        machine := p,
        records := { s.records with swing := { s.records.swing with
          reasons := s.records.swing.reasons.map updated } } }))
end

