-- ==== Sys2Proof/Laws/State.lean ====
section
/-! SUPPORT. One lemma for each field under each update of State, each true by rfl, so that no proof unfolds a record
update; and the reading of a member of a collection after it is set. -/

namespace Sys2Proof.Machine
open Sys2Proof

/-! ### Members of collections -/


@[simp] theorem PerMotion.get_set_same {α : Type} (p : PerMotion α) (i : Motion) (a : α) : (p.set i a).get i = a := by
  cases i <;> rfl

theorem PerMotion.get_set_other {α : Type} (p : PerMotion α) (i j : Motion) (a : α) (h : j ≠ i) : (p.set i a).get j = p.get j := by
  cases i <;> cases j <;> first | rfl | exact absurd rfl h

theorem PerMotion.get_set {α : Type} (p : PerMotion α) (i j : Motion) (a : α) :
    (p.set i a).get j = if j = i then a else p.get j := by
  cases i <;> cases j <;> rfl

theorem PerMotion.ext_get {α : Type} (p q : PerMotion α) (h : ∀ i, p.get i = q.get i) : p = q := by
  cases p; cases q
  simp only [PerMotion.mk.injEq]
  exact ⟨h .hoist, h .drag, h .swing, h .walk⟩


@[simp] theorem PerMotion.get_replicate {α : Type} (a : α) (i : Motion) : (PerMotion.replicate a).get i = a := by cases i <;> rfl


@[simp] theorem PerMotion.get_map {α β : Type} (f : α → β) (p : PerMotion α) (i : Motion) : (p.map f).get i = f (p.get i) := by
  cases i <;> rfl


@[simp] theorem PerAxis.get_set_same {α : Type} (p : PerAxis α) (i : Axis) (a : α) : (p.set i a).get i = a := by
  cases i <;> rfl

theorem PerAxis.get_set_other {α : Type} (p : PerAxis α) (i j : Axis) (a : α) (h : j ≠ i) : (p.set i a).get j = p.get j := by
  cases i <;> cases j <;> first | rfl | exact absurd rfl h

theorem PerAxis.get_set {α : Type} (p : PerAxis α) (i j : Axis) (a : α) :
    (p.set i a).get j = if j = i then a else p.get j := by
  cases i <;> cases j <;> rfl

theorem PerAxis.ext_get {α : Type} (p q : PerAxis α) (h : ∀ i, p.get i = q.get i) : p = q := by
  cases p; cases q
  simp only [PerAxis.mk.injEq]
  exact ⟨h .hoist, h .drag, h .swing, h .camL, h .camR⟩


@[simp] theorem PerAxis.get_replicate {α : Type} (a : α) (i : Axis) : (PerAxis.replicate a).get i = a := by cases i <;> rfl


@[simp] theorem PerAxis.get_map {α β : Type} (f : α → β) (p : PerAxis α) (i : Axis) : (p.map f).get i = f (p.get i) := by
  cases i <;> rfl


@[simp] theorem PerGen.get_set_same {α : Type} (p : PerGen α) (i : GenId) (a : α) : (p.set i a).get i = a := by
  cases i <;> rfl

theorem PerGen.get_set_other {α : Type} (p : PerGen α) (i j : GenId) (a : α) (h : j ≠ i) : (p.set i a).get j = p.get j := by
  cases i <;> cases j <;> first | rfl | exact absurd rfl h

theorem PerGen.get_set {α : Type} (p : PerGen α) (i j : GenId) (a : α) :
    (p.set i a).get j = if j = i then a else p.get j := by
  cases i <;> cases j <;> rfl

theorem PerGen.ext_get {α : Type} (p q : PerGen α) (h : ∀ i, p.get i = q.get i) : p = q := by
  cases p; cases q
  simp only [PerGen.mk.injEq]
  exact ⟨h .fastLamp, h .slowLamp, h .horn, h .beacon⟩


@[simp] theorem PerGen.get_map {α β : Type} (f : α → β) (p : PerGen α) (i : GenId) : (p.map f).get i = f (p.get i) := by
  cases i <;> rfl


/-! ### setRecord -/

@[simp] theorem State.setRecord_pending (s : State) (m : Motion) (a : Record) : (s.setRecord m a).pending = s.pending := rfl
@[simp] theorem State.setRecord_freeIx (s : State) (m : Motion) (a : Record) : (s.setRecord m a).freeIx = s.freeIx := rfl
@[simp] theorem State.setRecord_held (s : State) (m : Motion) (a : Record) : (s.setRecord m a).held = s.held := rfl
@[simp] theorem State.setRecord_records (s : State) (m : Motion) (a : Record) : (s.setRecord m a).records = s.records.set m a := rfl
@[simp] theorem State.setRecord_zones (s : State) (m : Motion) (a : Record) : (s.setRecord m a).zones = s.zones := rfl
@[simp] theorem State.setRecord_axisParams (s : State) (m : Motion) (a : Record) : (s.setRecord m a).axisParams = s.axisParams := rfl
@[simp] theorem State.setRecord_tracker (s : State) (m : Motion) (a : Record) : (s.setRecord m a).tracker = s.tracker := rfl
@[simp] theorem State.setRecord_channels (s : State) (m : Motion) (a : Record) : (s.setRecord m a).channels = s.channels := rfl
@[simp] theorem State.setRecord_brakes (s : State) (m : Motion) (a : Record) : (s.setRecord m a).brakes = s.brakes := rfl
@[simp] theorem State.setRecord_machine (s : State) (m : Motion) (a : Record) : (s.setRecord m a).machine = s.machine := rfl
@[simp] theorem State.setRecord_hd (s : State) (m : Motion) (a : Record) : (s.setRecord m a).hd = s.hd := rfl
@[simp] theorem State.setRecord_swing (s : State) (m : Motion) (a : Record) : (s.setRecord m a).swing = s.swing := rfl
@[simp] theorem State.setRecord_walk (s : State) (m : Motion) (a : Record) : (s.setRecord m a).walk = s.walk := rfl
@[simp] theorem State.setRecord_alarms (s : State) (m : Motion) (a : Record) : (s.setRecord m a).alarms = s.alarms := rfl
@[simp] theorem State.setRecord_ann (s : State) (m : Motion) (a : Record) : (s.setRecord m a).ann = s.ann := rfl
@[simp] theorem State.setRecord_ctl (s : State) (m : Motion) (a : Record) : (s.setRecord m a).ctl = s.ctl := rfl
@[simp] theorem State.setRecord_links (s : State) (m : Motion) (a : Record) : (s.setRecord m a).links = s.links := rfl

/-! ### setChannel -/

@[simp] theorem State.setChannel_pending (s : State) (m : Motion) (a : Channel) : (s.setChannel m a).pending = s.pending := rfl
@[simp] theorem State.setChannel_freeIx (s : State) (m : Motion) (a : Channel) : (s.setChannel m a).freeIx = s.freeIx := rfl
@[simp] theorem State.setChannel_held (s : State) (m : Motion) (a : Channel) : (s.setChannel m a).held = s.held := rfl
@[simp] theorem State.setChannel_records (s : State) (m : Motion) (a : Channel) : (s.setChannel m a).records = s.records := rfl
@[simp] theorem State.setChannel_zones (s : State) (m : Motion) (a : Channel) : (s.setChannel m a).zones = s.zones := rfl
@[simp] theorem State.setChannel_axisParams (s : State) (m : Motion) (a : Channel) : (s.setChannel m a).axisParams = s.axisParams := rfl
@[simp] theorem State.setChannel_tracker (s : State) (m : Motion) (a : Channel) : (s.setChannel m a).tracker = s.tracker := rfl
@[simp] theorem State.setChannel_channels (s : State) (m : Motion) (a : Channel) : (s.setChannel m a).channels = s.channels.set m a := rfl
@[simp] theorem State.setChannel_brakes (s : State) (m : Motion) (a : Channel) : (s.setChannel m a).brakes = s.brakes := rfl
@[simp] theorem State.setChannel_machine (s : State) (m : Motion) (a : Channel) : (s.setChannel m a).machine = s.machine := rfl
@[simp] theorem State.setChannel_hd (s : State) (m : Motion) (a : Channel) : (s.setChannel m a).hd = s.hd := rfl
@[simp] theorem State.setChannel_swing (s : State) (m : Motion) (a : Channel) : (s.setChannel m a).swing = s.swing := rfl
@[simp] theorem State.setChannel_walk (s : State) (m : Motion) (a : Channel) : (s.setChannel m a).walk = s.walk := rfl
@[simp] theorem State.setChannel_alarms (s : State) (m : Motion) (a : Channel) : (s.setChannel m a).alarms = s.alarms := rfl
@[simp] theorem State.setChannel_ann (s : State) (m : Motion) (a : Channel) : (s.setChannel m a).ann = s.ann := rfl
@[simp] theorem State.setChannel_ctl (s : State) (m : Motion) (a : Channel) : (s.setChannel m a).ctl = s.ctl := rfl
@[simp] theorem State.setChannel_links (s : State) (m : Motion) (a : Channel) : (s.setChannel m a).links = s.links := rfl

/-! ### setBrake -/

@[simp] theorem State.setBrake_pending (s : State) (m : Motion) (a : Brake) : (s.setBrake m a).pending = s.pending := rfl
@[simp] theorem State.setBrake_freeIx (s : State) (m : Motion) (a : Brake) : (s.setBrake m a).freeIx = s.freeIx := rfl
@[simp] theorem State.setBrake_held (s : State) (m : Motion) (a : Brake) : (s.setBrake m a).held = s.held := rfl
@[simp] theorem State.setBrake_records (s : State) (m : Motion) (a : Brake) : (s.setBrake m a).records = s.records := rfl
@[simp] theorem State.setBrake_zones (s : State) (m : Motion) (a : Brake) : (s.setBrake m a).zones = s.zones := rfl
@[simp] theorem State.setBrake_axisParams (s : State) (m : Motion) (a : Brake) : (s.setBrake m a).axisParams = s.axisParams := rfl
@[simp] theorem State.setBrake_tracker (s : State) (m : Motion) (a : Brake) : (s.setBrake m a).tracker = s.tracker := rfl
@[simp] theorem State.setBrake_channels (s : State) (m : Motion) (a : Brake) : (s.setBrake m a).channels = s.channels := rfl
@[simp] theorem State.setBrake_brakes (s : State) (m : Motion) (a : Brake) : (s.setBrake m a).brakes = s.brakes.set m a := rfl
@[simp] theorem State.setBrake_machine (s : State) (m : Motion) (a : Brake) : (s.setBrake m a).machine = s.machine := rfl
@[simp] theorem State.setBrake_hd (s : State) (m : Motion) (a : Brake) : (s.setBrake m a).hd = s.hd := rfl
@[simp] theorem State.setBrake_swing (s : State) (m : Motion) (a : Brake) : (s.setBrake m a).swing = s.swing := rfl
@[simp] theorem State.setBrake_walk (s : State) (m : Motion) (a : Brake) : (s.setBrake m a).walk = s.walk := rfl
@[simp] theorem State.setBrake_alarms (s : State) (m : Motion) (a : Brake) : (s.setBrake m a).alarms = s.alarms := rfl
@[simp] theorem State.setBrake_ann (s : State) (m : Motion) (a : Brake) : (s.setBrake m a).ann = s.ann := rfl
@[simp] theorem State.setBrake_ctl (s : State) (m : Motion) (a : Brake) : (s.setBrake m a).ctl = s.ctl := rfl
@[simp] theorem State.setBrake_links (s : State) (m : Motion) (a : Brake) : (s.setBrake m a).links = s.links := rfl

/-! ### setWalk -/

@[simp] theorem State.setWalk_pending (s : State) (a : Walk) : (s.setWalk a).pending = s.pending := rfl
@[simp] theorem State.setWalk_freeIx (s : State) (a : Walk) : (s.setWalk a).freeIx = s.freeIx := rfl
@[simp] theorem State.setWalk_held (s : State) (a : Walk) : (s.setWalk a).held = s.held := rfl
@[simp] theorem State.setWalk_records (s : State) (a : Walk) : (s.setWalk a).records = s.records := rfl
@[simp] theorem State.setWalk_zones (s : State) (a : Walk) : (s.setWalk a).zones = s.zones := rfl
@[simp] theorem State.setWalk_axisParams (s : State) (a : Walk) : (s.setWalk a).axisParams = s.axisParams := rfl
@[simp] theorem State.setWalk_tracker (s : State) (a : Walk) : (s.setWalk a).tracker = s.tracker := rfl
@[simp] theorem State.setWalk_channels (s : State) (a : Walk) : (s.setWalk a).channels = s.channels := rfl
@[simp] theorem State.setWalk_brakes (s : State) (a : Walk) : (s.setWalk a).brakes = s.brakes := rfl
@[simp] theorem State.setWalk_machine (s : State) (a : Walk) : (s.setWalk a).machine = s.machine := rfl
@[simp] theorem State.setWalk_hd (s : State) (a : Walk) : (s.setWalk a).hd = s.hd := rfl
@[simp] theorem State.setWalk_swing (s : State) (a : Walk) : (s.setWalk a).swing = s.swing := rfl
@[simp] theorem State.setWalk_walk (s : State) (a : Walk) : (s.setWalk a).walk = a := rfl
@[simp] theorem State.setWalk_alarms (s : State) (a : Walk) : (s.setWalk a).alarms = s.alarms := rfl
@[simp] theorem State.setWalk_ann (s : State) (a : Walk) : (s.setWalk a).ann = s.ann := rfl
@[simp] theorem State.setWalk_ctl (s : State) (a : Walk) : (s.setWalk a).ctl = s.ctl := rfl
@[simp] theorem State.setWalk_links (s : State) (a : Walk) : (s.setWalk a).links = s.links := rfl

/-! ### setSwing -/

@[simp] theorem State.setSwing_pending (s : State) (a : SwingSup) : (s.setSwing a).pending = s.pending := rfl
@[simp] theorem State.setSwing_freeIx (s : State) (a : SwingSup) : (s.setSwing a).freeIx = s.freeIx := rfl
@[simp] theorem State.setSwing_held (s : State) (a : SwingSup) : (s.setSwing a).held = s.held := rfl
@[simp] theorem State.setSwing_records (s : State) (a : SwingSup) : (s.setSwing a).records = s.records := rfl
@[simp] theorem State.setSwing_zones (s : State) (a : SwingSup) : (s.setSwing a).zones = s.zones := rfl
@[simp] theorem State.setSwing_axisParams (s : State) (a : SwingSup) : (s.setSwing a).axisParams = s.axisParams := rfl
@[simp] theorem State.setSwing_tracker (s : State) (a : SwingSup) : (s.setSwing a).tracker = s.tracker := rfl
@[simp] theorem State.setSwing_channels (s : State) (a : SwingSup) : (s.setSwing a).channels = s.channels := rfl
@[simp] theorem State.setSwing_brakes (s : State) (a : SwingSup) : (s.setSwing a).brakes = s.brakes := rfl
@[simp] theorem State.setSwing_machine (s : State) (a : SwingSup) : (s.setSwing a).machine = s.machine := rfl
@[simp] theorem State.setSwing_hd (s : State) (a : SwingSup) : (s.setSwing a).hd = s.hd := rfl
@[simp] theorem State.setSwing_swing (s : State) (a : SwingSup) : (s.setSwing a).swing = a := rfl
@[simp] theorem State.setSwing_walk (s : State) (a : SwingSup) : (s.setSwing a).walk = s.walk := rfl
@[simp] theorem State.setSwing_alarms (s : State) (a : SwingSup) : (s.setSwing a).alarms = s.alarms := rfl
@[simp] theorem State.setSwing_ann (s : State) (a : SwingSup) : (s.setSwing a).ann = s.ann := rfl
@[simp] theorem State.setSwing_ctl (s : State) (a : SwingSup) : (s.setSwing a).ctl = s.ctl := rfl
@[simp] theorem State.setSwing_links (s : State) (a : SwingSup) : (s.setSwing a).links = s.links := rfl

/-! ### setHd -/

@[simp] theorem State.setHd_pending (s : State) (a : HoistDrag) : (s.setHd a).pending = s.pending := rfl
@[simp] theorem State.setHd_freeIx (s : State) (a : HoistDrag) : (s.setHd a).freeIx = s.freeIx := rfl
@[simp] theorem State.setHd_held (s : State) (a : HoistDrag) : (s.setHd a).held = s.held := rfl
@[simp] theorem State.setHd_records (s : State) (a : HoistDrag) : (s.setHd a).records = s.records := rfl
@[simp] theorem State.setHd_zones (s : State) (a : HoistDrag) : (s.setHd a).zones = s.zones := rfl
@[simp] theorem State.setHd_axisParams (s : State) (a : HoistDrag) : (s.setHd a).axisParams = s.axisParams := rfl
@[simp] theorem State.setHd_tracker (s : State) (a : HoistDrag) : (s.setHd a).tracker = s.tracker := rfl
@[simp] theorem State.setHd_channels (s : State) (a : HoistDrag) : (s.setHd a).channels = s.channels := rfl
@[simp] theorem State.setHd_brakes (s : State) (a : HoistDrag) : (s.setHd a).brakes = s.brakes := rfl
@[simp] theorem State.setHd_machine (s : State) (a : HoistDrag) : (s.setHd a).machine = s.machine := rfl
@[simp] theorem State.setHd_hd (s : State) (a : HoistDrag) : (s.setHd a).hd = a := rfl
@[simp] theorem State.setHd_swing (s : State) (a : HoistDrag) : (s.setHd a).swing = s.swing := rfl
@[simp] theorem State.setHd_walk (s : State) (a : HoistDrag) : (s.setHd a).walk = s.walk := rfl
@[simp] theorem State.setHd_alarms (s : State) (a : HoistDrag) : (s.setHd a).alarms = s.alarms := rfl
@[simp] theorem State.setHd_ann (s : State) (a : HoistDrag) : (s.setHd a).ann = s.ann := rfl
@[simp] theorem State.setHd_ctl (s : State) (a : HoistDrag) : (s.setHd a).ctl = s.ctl := rfl
@[simp] theorem State.setHd_links (s : State) (a : HoistDrag) : (s.setHd a).links = s.links := rfl

/-! ### setAlarms -/

@[simp] theorem State.setAlarms_pending (s : State) (a : AlarmProc) : (s.setAlarms a).pending = s.pending := rfl
@[simp] theorem State.setAlarms_freeIx (s : State) (a : AlarmProc) : (s.setAlarms a).freeIx = s.freeIx := rfl
@[simp] theorem State.setAlarms_held (s : State) (a : AlarmProc) : (s.setAlarms a).held = s.held := rfl
@[simp] theorem State.setAlarms_records (s : State) (a : AlarmProc) : (s.setAlarms a).records = s.records := rfl
@[simp] theorem State.setAlarms_zones (s : State) (a : AlarmProc) : (s.setAlarms a).zones = s.zones := rfl
@[simp] theorem State.setAlarms_axisParams (s : State) (a : AlarmProc) : (s.setAlarms a).axisParams = s.axisParams := rfl
@[simp] theorem State.setAlarms_tracker (s : State) (a : AlarmProc) : (s.setAlarms a).tracker = s.tracker := rfl
@[simp] theorem State.setAlarms_channels (s : State) (a : AlarmProc) : (s.setAlarms a).channels = s.channels := rfl
@[simp] theorem State.setAlarms_brakes (s : State) (a : AlarmProc) : (s.setAlarms a).brakes = s.brakes := rfl
@[simp] theorem State.setAlarms_machine (s : State) (a : AlarmProc) : (s.setAlarms a).machine = s.machine := rfl
@[simp] theorem State.setAlarms_hd (s : State) (a : AlarmProc) : (s.setAlarms a).hd = s.hd := rfl
@[simp] theorem State.setAlarms_swing (s : State) (a : AlarmProc) : (s.setAlarms a).swing = s.swing := rfl
@[simp] theorem State.setAlarms_walk (s : State) (a : AlarmProc) : (s.setAlarms a).walk = s.walk := rfl
@[simp] theorem State.setAlarms_alarms (s : State) (a : AlarmProc) : (s.setAlarms a).alarms = a := rfl
@[simp] theorem State.setAlarms_ann (s : State) (a : AlarmProc) : (s.setAlarms a).ann = s.ann := rfl
@[simp] theorem State.setAlarms_ctl (s : State) (a : AlarmProc) : (s.setAlarms a).ctl = s.ctl := rfl
@[simp] theorem State.setAlarms_links (s : State) (a : AlarmProc) : (s.setAlarms a).links = s.links := rfl

/-! ### setAnn -/

@[simp] theorem State.setAnn_pending (s : State) (a : Annunciator) : (s.setAnn a).pending = s.pending := rfl
@[simp] theorem State.setAnn_freeIx (s : State) (a : Annunciator) : (s.setAnn a).freeIx = s.freeIx := rfl
@[simp] theorem State.setAnn_held (s : State) (a : Annunciator) : (s.setAnn a).held = s.held := rfl
@[simp] theorem State.setAnn_records (s : State) (a : Annunciator) : (s.setAnn a).records = s.records := rfl
@[simp] theorem State.setAnn_zones (s : State) (a : Annunciator) : (s.setAnn a).zones = s.zones := rfl
@[simp] theorem State.setAnn_axisParams (s : State) (a : Annunciator) : (s.setAnn a).axisParams = s.axisParams := rfl
@[simp] theorem State.setAnn_tracker (s : State) (a : Annunciator) : (s.setAnn a).tracker = s.tracker := rfl
@[simp] theorem State.setAnn_channels (s : State) (a : Annunciator) : (s.setAnn a).channels = s.channels := rfl
@[simp] theorem State.setAnn_brakes (s : State) (a : Annunciator) : (s.setAnn a).brakes = s.brakes := rfl
@[simp] theorem State.setAnn_machine (s : State) (a : Annunciator) : (s.setAnn a).machine = s.machine := rfl
@[simp] theorem State.setAnn_hd (s : State) (a : Annunciator) : (s.setAnn a).hd = s.hd := rfl
@[simp] theorem State.setAnn_swing (s : State) (a : Annunciator) : (s.setAnn a).swing = s.swing := rfl
@[simp] theorem State.setAnn_walk (s : State) (a : Annunciator) : (s.setAnn a).walk = s.walk := rfl
@[simp] theorem State.setAnn_alarms (s : State) (a : Annunciator) : (s.setAnn a).alarms = s.alarms := rfl
@[simp] theorem State.setAnn_ann (s : State) (a : Annunciator) : (s.setAnn a).ann = a := rfl
@[simp] theorem State.setAnn_ctl (s : State) (a : Annunciator) : (s.setAnn a).ctl = s.ctl := rfl
@[simp] theorem State.setAnn_links (s : State) (a : Annunciator) : (s.setAnn a).links = s.links := rfl

/-! ### setCtl -/

@[simp] theorem State.setCtl_pending (s : State) (a : ModeCtl) : (s.setCtl a).pending = s.pending := rfl
@[simp] theorem State.setCtl_freeIx (s : State) (a : ModeCtl) : (s.setCtl a).freeIx = s.freeIx := rfl
@[simp] theorem State.setCtl_held (s : State) (a : ModeCtl) : (s.setCtl a).held = s.held := rfl
@[simp] theorem State.setCtl_records (s : State) (a : ModeCtl) : (s.setCtl a).records = s.records := rfl
@[simp] theorem State.setCtl_zones (s : State) (a : ModeCtl) : (s.setCtl a).zones = s.zones := rfl
@[simp] theorem State.setCtl_axisParams (s : State) (a : ModeCtl) : (s.setCtl a).axisParams = s.axisParams := rfl
@[simp] theorem State.setCtl_tracker (s : State) (a : ModeCtl) : (s.setCtl a).tracker = s.tracker := rfl
@[simp] theorem State.setCtl_channels (s : State) (a : ModeCtl) : (s.setCtl a).channels = s.channels := rfl
@[simp] theorem State.setCtl_brakes (s : State) (a : ModeCtl) : (s.setCtl a).brakes = s.brakes := rfl
@[simp] theorem State.setCtl_machine (s : State) (a : ModeCtl) : (s.setCtl a).machine = s.machine := rfl
@[simp] theorem State.setCtl_hd (s : State) (a : ModeCtl) : (s.setCtl a).hd = s.hd := rfl
@[simp] theorem State.setCtl_swing (s : State) (a : ModeCtl) : (s.setCtl a).swing = s.swing := rfl
@[simp] theorem State.setCtl_walk (s : State) (a : ModeCtl) : (s.setCtl a).walk = s.walk := rfl
@[simp] theorem State.setCtl_alarms (s : State) (a : ModeCtl) : (s.setCtl a).alarms = s.alarms := rfl
@[simp] theorem State.setCtl_ann (s : State) (a : ModeCtl) : (s.setCtl a).ann = s.ann := rfl
@[simp] theorem State.setCtl_ctl (s : State) (a : ModeCtl) : (s.setCtl a).ctl = a := rfl
@[simp] theorem State.setCtl_links (s : State) (a : ModeCtl) : (s.setCtl a).links = s.links := rfl

/-! ### setLinks -/

@[simp] theorem State.setLinks_pending (s : State) (a : Links) : (s.setLinks a).pending = s.pending := rfl
@[simp] theorem State.setLinks_freeIx (s : State) (a : Links) : (s.setLinks a).freeIx = s.freeIx := rfl
@[simp] theorem State.setLinks_held (s : State) (a : Links) : (s.setLinks a).held = s.held := rfl
@[simp] theorem State.setLinks_records (s : State) (a : Links) : (s.setLinks a).records = s.records := rfl
@[simp] theorem State.setLinks_zones (s : State) (a : Links) : (s.setLinks a).zones = s.zones := rfl
@[simp] theorem State.setLinks_axisParams (s : State) (a : Links) : (s.setLinks a).axisParams = s.axisParams := rfl
@[simp] theorem State.setLinks_tracker (s : State) (a : Links) : (s.setLinks a).tracker = s.tracker := rfl
@[simp] theorem State.setLinks_channels (s : State) (a : Links) : (s.setLinks a).channels = s.channels := rfl
@[simp] theorem State.setLinks_brakes (s : State) (a : Links) : (s.setLinks a).brakes = s.brakes := rfl
@[simp] theorem State.setLinks_machine (s : State) (a : Links) : (s.setLinks a).machine = s.machine := rfl
@[simp] theorem State.setLinks_hd (s : State) (a : Links) : (s.setLinks a).hd = s.hd := rfl
@[simp] theorem State.setLinks_swing (s : State) (a : Links) : (s.setLinks a).swing = s.swing := rfl
@[simp] theorem State.setLinks_walk (s : State) (a : Links) : (s.setLinks a).walk = s.walk := rfl
@[simp] theorem State.setLinks_alarms (s : State) (a : Links) : (s.setLinks a).alarms = s.alarms := rfl
@[simp] theorem State.setLinks_ann (s : State) (a : Links) : (s.setLinks a).ann = s.ann := rfl
@[simp] theorem State.setLinks_ctl (s : State) (a : Links) : (s.setLinks a).ctl = s.ctl := rfl
@[simp] theorem State.setLinks_links (s : State) (a : Links) : (s.setLinks a).links = a := rfl

/-! ### setTracker -/

@[simp] theorem State.setTracker_pending (s : State) (a : Tracker) : (s.setTracker a).pending = s.pending := rfl
@[simp] theorem State.setTracker_freeIx (s : State) (a : Tracker) : (s.setTracker a).freeIx = s.freeIx := rfl
@[simp] theorem State.setTracker_held (s : State) (a : Tracker) : (s.setTracker a).held = s.held := rfl
@[simp] theorem State.setTracker_records (s : State) (a : Tracker) : (s.setTracker a).records = s.records := rfl
@[simp] theorem State.setTracker_zones (s : State) (a : Tracker) : (s.setTracker a).zones = s.zones := rfl
@[simp] theorem State.setTracker_axisParams (s : State) (a : Tracker) : (s.setTracker a).axisParams = s.axisParams := rfl
@[simp] theorem State.setTracker_tracker (s : State) (a : Tracker) : (s.setTracker a).tracker = a := rfl
@[simp] theorem State.setTracker_channels (s : State) (a : Tracker) : (s.setTracker a).channels = s.channels := rfl
@[simp] theorem State.setTracker_brakes (s : State) (a : Tracker) : (s.setTracker a).brakes = s.brakes := rfl
@[simp] theorem State.setTracker_machine (s : State) (a : Tracker) : (s.setTracker a).machine = s.machine := rfl
@[simp] theorem State.setTracker_hd (s : State) (a : Tracker) : (s.setTracker a).hd = s.hd := rfl
@[simp] theorem State.setTracker_swing (s : State) (a : Tracker) : (s.setTracker a).swing = s.swing := rfl
@[simp] theorem State.setTracker_walk (s : State) (a : Tracker) : (s.setTracker a).walk = s.walk := rfl
@[simp] theorem State.setTracker_alarms (s : State) (a : Tracker) : (s.setTracker a).alarms = s.alarms := rfl
@[simp] theorem State.setTracker_ann (s : State) (a : Tracker) : (s.setTracker a).ann = s.ann := rfl
@[simp] theorem State.setTracker_ctl (s : State) (a : Tracker) : (s.setTracker a).ctl = s.ctl := rfl
@[simp] theorem State.setTracker_links (s : State) (a : Tracker) : (s.setTracker a).links = s.links := rfl

/-! ### setReasons -/

@[simp] theorem State.setReasons_pending (s : State) (m : Motion) (rs : List Reason) : (s.setReasons m rs).pending = s.pending := rfl
@[simp] theorem State.setReasons_freeIx (s : State) (m : Motion) (rs : List Reason) : (s.setReasons m rs).freeIx = s.freeIx := rfl
@[simp] theorem State.setReasons_held (s : State) (m : Motion) (rs : List Reason) : (s.setReasons m rs).held = s.held := rfl
@[simp] theorem State.setReasons_records (s : State) (m : Motion) (rs : List Reason) : (s.setReasons m rs).records = s.records.set m { s.records.get m with reasons := rs } := rfl
@[simp] theorem State.setReasons_zones (s : State) (m : Motion) (rs : List Reason) : (s.setReasons m rs).zones = s.zones := rfl
@[simp] theorem State.setReasons_axisParams (s : State) (m : Motion) (rs : List Reason) : (s.setReasons m rs).axisParams = s.axisParams := rfl
@[simp] theorem State.setReasons_tracker (s : State) (m : Motion) (rs : List Reason) : (s.setReasons m rs).tracker = s.tracker := rfl
@[simp] theorem State.setReasons_channels (s : State) (m : Motion) (rs : List Reason) : (s.setReasons m rs).channels = s.channels := rfl
@[simp] theorem State.setReasons_brakes (s : State) (m : Motion) (rs : List Reason) : (s.setReasons m rs).brakes = s.brakes := rfl
@[simp] theorem State.setReasons_machine (s : State) (m : Motion) (rs : List Reason) : (s.setReasons m rs).machine = s.machine := rfl
@[simp] theorem State.setReasons_hd (s : State) (m : Motion) (rs : List Reason) : (s.setReasons m rs).hd = s.hd := rfl
@[simp] theorem State.setReasons_swing (s : State) (m : Motion) (rs : List Reason) : (s.setReasons m rs).swing = s.swing := rfl
@[simp] theorem State.setReasons_walk (s : State) (m : Motion) (rs : List Reason) : (s.setReasons m rs).walk = s.walk := rfl
@[simp] theorem State.setReasons_alarms (s : State) (m : Motion) (rs : List Reason) : (s.setReasons m rs).alarms = s.alarms := rfl
@[simp] theorem State.setReasons_ann (s : State) (m : Motion) (rs : List Reason) : (s.setReasons m rs).ann = s.ann := rfl
@[simp] theorem State.setReasons_ctl (s : State) (m : Motion) (rs : List Reason) : (s.setReasons m rs).ctl = s.ctl := rfl
@[simp] theorem State.setReasons_links (s : State) (m : Motion) (rs : List Reason) : (s.setReasons m rs).links = s.links := rfl

/-! ### setGen -/

@[simp] theorem State.setGen_pending (s : State) (g : GenId) (x : Gen) : (s.setGen g x).pending = s.pending := rfl
@[simp] theorem State.setGen_freeIx (s : State) (g : GenId) (x : Gen) : (s.setGen g x).freeIx = s.freeIx := rfl
@[simp] theorem State.setGen_held (s : State) (g : GenId) (x : Gen) : (s.setGen g x).held = s.held := rfl
@[simp] theorem State.setGen_records (s : State) (g : GenId) (x : Gen) : (s.setGen g x).records = s.records := rfl
@[simp] theorem State.setGen_zones (s : State) (g : GenId) (x : Gen) : (s.setGen g x).zones = s.zones := rfl
@[simp] theorem State.setGen_axisParams (s : State) (g : GenId) (x : Gen) : (s.setGen g x).axisParams = s.axisParams := rfl
@[simp] theorem State.setGen_tracker (s : State) (g : GenId) (x : Gen) : (s.setGen g x).tracker = s.tracker := rfl
@[simp] theorem State.setGen_channels (s : State) (g : GenId) (x : Gen) : (s.setGen g x).channels = s.channels := rfl
@[simp] theorem State.setGen_brakes (s : State) (g : GenId) (x : Gen) : (s.setGen g x).brakes = s.brakes := rfl
@[simp] theorem State.setGen_machine (s : State) (g : GenId) (x : Gen) : (s.setGen g x).machine = s.machine := rfl
@[simp] theorem State.setGen_hd (s : State) (g : GenId) (x : Gen) : (s.setGen g x).hd = s.hd := rfl
@[simp] theorem State.setGen_swing (s : State) (g : GenId) (x : Gen) : (s.setGen g x).swing = s.swing := rfl
@[simp] theorem State.setGen_walk (s : State) (g : GenId) (x : Gen) : (s.setGen g x).walk = s.walk := rfl
@[simp] theorem State.setGen_alarms (s : State) (g : GenId) (x : Gen) : (s.setGen g x).alarms = s.alarms := rfl
@[simp] theorem State.setGen_ann (s : State) (g : GenId) (x : Gen) : (s.setGen g x).ann = { s.ann with gens := s.ann.gens.set g x } := rfl
@[simp] theorem State.setGen_ctl (s : State) (g : GenId) (x : Gen) : (s.setGen g x).ctl = s.ctl := rfl
@[simp] theorem State.setGen_links (s : State) (g : GenId) (x : Gen) : (s.setGen g x).links = s.links := rfl

/-! ### setRun -/

@[simp] theorem setRun_pending (n : Fin 64) (r : AlarmRun) (s : State) : (setRun n r s).pending = s.pending := rfl
@[simp] theorem setRun_freeIx (n : Fin 64) (r : AlarmRun) (s : State) : (setRun n r s).freeIx = s.freeIx := rfl
@[simp] theorem setRun_held (n : Fin 64) (r : AlarmRun) (s : State) : (setRun n r s).held = s.held := rfl
@[simp] theorem setRun_records (n : Fin 64) (r : AlarmRun) (s : State) : (setRun n r s).records = s.records := rfl
@[simp] theorem setRun_zones (n : Fin 64) (r : AlarmRun) (s : State) : (setRun n r s).zones = s.zones := rfl
@[simp] theorem setRun_axisParams (n : Fin 64) (r : AlarmRun) (s : State) : (setRun n r s).axisParams = s.axisParams := rfl
@[simp] theorem setRun_tracker (n : Fin 64) (r : AlarmRun) (s : State) : (setRun n r s).tracker = s.tracker := rfl
@[simp] theorem setRun_channels (n : Fin 64) (r : AlarmRun) (s : State) : (setRun n r s).channels = s.channels := rfl
@[simp] theorem setRun_brakes (n : Fin 64) (r : AlarmRun) (s : State) : (setRun n r s).brakes = s.brakes := rfl
@[simp] theorem setRun_machine (n : Fin 64) (r : AlarmRun) (s : State) : (setRun n r s).machine = s.machine := rfl
@[simp] theorem setRun_hd (n : Fin 64) (r : AlarmRun) (s : State) : (setRun n r s).hd = s.hd := rfl
@[simp] theorem setRun_swing (n : Fin 64) (r : AlarmRun) (s : State) : (setRun n r s).swing = s.swing := rfl
@[simp] theorem setRun_walk (n : Fin 64) (r : AlarmRun) (s : State) : (setRun n r s).walk = s.walk := rfl
@[simp] theorem setRun_alarms (n : Fin 64) (r : AlarmRun) (s : State) : (setRun n r s).alarms = { s.alarms with runs := s.alarms.runs.set n r } := rfl
@[simp] theorem setRun_ann (n : Fin 64) (r : AlarmRun) (s : State) : (setRun n r s).ann = s.ann := rfl
@[simp] theorem setRun_ctl (n : Fin 64) (r : AlarmRun) (s : State) : (setRun n r s).ctl = s.ctl := rfl
@[simp] theorem setRun_links (n : Fin 64) (r : AlarmRun) (s : State) : (setRun n r s).links = s.links := rfl

/-! ### Members after an update -/

theorem State.permit_def (s : State) (m : Motion) : s.permit m = permitOf (s.records.get m).reasons := rfl

@[simp] theorem State.permit_setReasons_same (s : State) (m : Motion) (rs : List Reason) :
    (s.setReasons m rs).permit m = permitOf rs := by
  simp [State.permit]

theorem State.reasons_setReasons (s : State) (m j : Motion) (rs : List Reason) :
    ((s.setReasons m rs).records.get j).reasons = if j = m then rs else (s.records.get j).reasons := by
  simp only [State.setReasons_records, PerMotion.get_set]
  split <;> rfl

@[simp] theorem setRun_runs_same (n : Fin 64) (r : AlarmRun) (s : State) : (setRun n r s).alarms.runs[n] = r := by
  simp

theorem setRun_runs_other (n k : Fin 64) (r : AlarmRun) (s : State) (h : k ≠ n) :
    (setRun n r s).alarms.runs[k] = s.alarms.runs[k] := by
  have hv : n.val ≠ k.val := fun e => h (Fin.ext e.symm)
  simp [Vector.getElem_set_ne, hv]

end Sys2Proof.Machine
end

