-- ==== Sys2Proof/Laws/Order.lean ====
section
/-! SUPPORT. What a free order can be: some permutation of what is to be taken, so that what every member keeps, the whole
keeps, whatever the value of Config.order. -/

namespace Sys2Proof.Machine
open Sys2Proof

/-- Every free order is an order of the same elements. -/
theorem orderBy_perm {α : Type} [DecidableEq α] (before : α → α → Bool) :
    ∀ (fuel : Nat) (ks : List Nat) (xs : List α), (orderBy before fuel ks xs).Perm xs := by
  intro fuel
  induction fuel with
  | zero => intro ks xs; exact List.Perm.refl _
  | succ fuel ih =>
    intro ks xs
    match xs with
    | [] => exact List.Perm.refl _
    | [x] => exact List.Perm.refl _
    | x :: y :: rest =>
      simp only [orderBy]
      generalize hr : (x :: y :: rest).filter (fun a => (x :: y :: rest).all (fun b => !before b a)) = ready
      have hsub : ∀ a ∈ ready, a ∈ x :: y :: rest := by
        intro a ha
        rw [← hr] at ha
        exact (List.mem_filter.mp ha).1
      generalize hn : ready.getD (ks.headD 0 % ready.length) x = next
      have hmem : next ∈ x :: y :: rest := by
        rw [← hn]
        by_cases hi : ks.headD 0 % ready.length < ready.length
        · rw [List.getD_eq_getElem?_getD, List.getElem?_eq_getElem hi]
          exact hsub _ (List.getElem_mem hi)
        · rw [List.getD_eq_getElem?_getD, List.getElem?_eq_none (by omega)]
          exact List.mem_cons_self
      exact (List.Perm.cons next (ih _ _)).trans (List.perm_cons_erase hmem).symm

/-- Taking in a free order is taking in some order. -/
theorem takeInOrder_spec {α : Type} [DecidableEq α] (before : α → α → Bool) (f : α → State → State) (xs : List α)
    (s : State) :
    ∃ ys : List α, ys.Perm xs ∧
      takeInOrder before f xs s = ys.foldl (fun t x => f x t) { s with freeIx := s.freeIx + 1 } :=
  ⟨_, orderBy_perm before _ _ xs, rfl⟩

/-- What every member keeps, a fold over the members keeps. -/
theorem foldl_keeps {α : Type} (P : State → Prop) (f : α → State → State) :
    ∀ (xs : List α), (∀ x ∈ xs, ∀ t, P t → P (f x t)) → ∀ s, P s → P (xs.foldl (fun t x => f x t) s)
  | [], _, _, h => h
  | x :: xs, hf, s, h =>
    foldl_keeps P f xs (fun y hy => hf y (List.mem_cons_of_mem _ hy)) _ (hf x List.mem_cons_self s h)

/-- What a change of the free-value counter and every member keep, a free order keeps. -/
theorem takeInOrder_keeps {α : Type} [DecidableEq α] (P : State → Prop) (before : α → α → Bool) (f : α → State → State)
    (xs : List α) (s : State) (hfree : ∀ t n, P t → P { t with freeIx := n })
    (hf : ∀ x ∈ xs, ∀ t, P t → P (f x t)) (h : P s) : P (takeInOrder before f xs s) := by
  obtain ⟨ys, hp, he⟩ := takeInOrder_spec before f xs s
  rw [he]
  exact foldl_keeps P f ys (fun x hx => hf x (hp.subset hx)) _ (hfree s _ h)

theorem takeEither_keeps {α : Type} [DecidableEq α] (P : State → Prop) (f : α → State → State) (xs : List α) (s : State)
    (hfree : ∀ t n, P t → P { t with freeIx := n }) (hf : ∀ x ∈ xs, ∀ t, P t → P (f x t)) (h : P s) :
    P (takeEither f xs s) :=
  takeInOrder_keeps P _ f xs s hfree hf h

/-- A relation that holds across every member's taking holds across the whole. -/
theorem takeInOrder_relates {α : Type} [DecidableEq α] (R : State → State → Prop) (hrefl : ∀ t, R t t)
    (htrans : ∀ {a b c}, R a b → R b c → R a c) (before : α → α → Bool) (f : α → State → State) (xs : List α) (s : State)
    (hfree : ∀ t n, R t { t with freeIx := n }) (hf : ∀ x ∈ xs, ∀ t, R t (f x t)) : R s (takeInOrder before f xs s) :=
  takeInOrder_keeps (fun t => R s t) before f xs s (fun t n h => htrans h (hfree t n))
    (fun x hx t h => htrans h (hf x hx t)) (hrefl s)

theorem takeEither_relates {α : Type} [DecidableEq α] (R : State → State → Prop) (hrefl : ∀ t, R t t)
    (htrans : ∀ {a b c}, R a b → R b c → R a c) (f : α → State → State) (xs : List α) (s : State)
    (hfree : ∀ t n, R t { t with freeIx := n }) (hf : ∀ x ∈ xs, ∀ t, R t (f x t)) : R s (takeEither f xs s) :=
  takeInOrder_relates R hrefl htrans _ f xs s hfree hf

end Sys2Proof.Machine
end

