-- ==== Sys2Proof/Laws/Ops.lean ====
section
/-! SUPPORT. What the shared operations leave alone. Every operation over the reasons, the halts, the brakes' own reactions,
the alarms, the horn and the walk timers keeps what `AuthorityKept` lists; the relation is reflexive and transitive, holds
of each update of one block that respects it, and so of every composition. -/

namespace Sys2Proof.Machine
open Sys2Proof

theorem AuthorityKept.refl (s : State) : AuthorityKept s s := by
  constructor <;> first | rfl | (intro m; exact ⟨rfl, rfl⟩) | (intro m; rfl) | exact ⟨rfl, rfl⟩ |
    (intro m; exact ⟨rfl, rfl, rfl, rfl⟩)

theorem AuthorityKept.trans {a b c : State} (h : AuthorityKept a b) (k : AuthorityKept b c) : AuthorityKept a c where
  pending := k.pending.trans h.pending
  held := k.held.trans h.held
  zones := k.zones.trans h.zones
  axisParams := k.axisParams.trans h.axisParams
  tracker := k.tracker.trans h.tracker
  machine := k.machine.trans h.machine
  hd := k.hd.trans h.hd
  ctl := k.ctl.trans h.ctl
  links := k.links.trans h.links
  zoneCaps m := ⟨(k.zoneCaps m).1.trans (h.zoneCaps m).1, (k.zoneCaps m).2.trans (h.zoneCaps m).2⟩
  channels m := (k.channels m).trans (h.channels m)
  brakes m := ⟨(k.brakes m).1.trans (h.brakes m).1, (k.brakes m).2.1.trans (h.brakes m).2.1,
    (k.brakes m).2.2.1.trans (h.brakes m).2.2.1, (k.brakes m).2.2.2.trans (h.brakes m).2.2.2⟩
  swing := k.swing.trans h.swing
  walk := k.walk.trans h.walk
  defs := k.defs.trans h.defs
  inputs := ⟨k.inputs.1.trans h.inputs.1, k.inputs.2.trans h.inputs.2⟩
  lastButtons := k.lastButtons.trans h.lastButtons
  annunciator := by
    have e₁ := h.annunciator
    have e₂ := k.annunciator
    simp only [Annunciator.mk.injEq] at e₁ e₂ ⊢
    obtain ⟨a1, a2, a3, a4, -, a6, -⟩ := e₁
    obtain ⟨b1, b2, b3, b4, -, b6, -⟩ := e₂
    exact ⟨b1.trans a1, b2.trans a2, b3.trans a3, b4.trans a4, trivial, b6.trans a6, trivial⟩
  lampGens := ⟨k.lampGens.1.trans h.lampGens.1, k.lampGens.2.trans h.lampGens.2⟩

/-! ### One block at a time -/

theorem kept_freeIx (s : State) (n : Nat) : AuthorityKept s { s with freeIx := n } := by
  constructor <;> first | rfl | (intro m; exact ⟨rfl, rfl⟩) | (intro m; rfl) | exact ⟨rfl, rfl⟩ |
    (intro m; exact ⟨rfl, rfl, rfl, rfl⟩)

theorem kept_setReasons (s : State) (m : Motion) (rs : List Reason) : AuthorityKept s (s.setReasons m rs) := by
  constructor <;> first | rfl | (intro j; rfl) | exact ⟨rfl, rfl⟩ | (intro j; exact ⟨rfl, rfl, rfl, rfl⟩) | skip
  intro j
  simp only [State.setReasons_records, PerMotion.get_set]
  split <;> simp_all

theorem kept_setChannel (s : State) (m : Motion) (c : Channel)
    (h : { c with armed := false, demand := false, r := 0, history := [] } =
      { s.channels.get m with armed := false, demand := false, r := 0, history := [] }) :
    AuthorityKept s (s.setChannel m c) := by
  constructor <;> first | rfl | (intro j; exact ⟨rfl, rfl⟩) | exact ⟨rfl, rfl⟩ | (intro j; exact ⟨rfl, rfl, rfl, rfl⟩) | skip
  intro j
  simp only [State.setChannel_channels, PerMotion.get_set]
  split
  · subst j; exact h
  · rfl

theorem kept_setBrake (s : State) (m : Motion) (b : Brake)
    (h : b.lastReleased = (s.brakes.get m).lastReleased ∧ b.lastSpeed = (s.brakes.get m).lastSpeed ∧
      b.releaseFail = (s.brakes.get m).releaseFail ∧ b.setFail = (s.brakes.get m).setFail) :
    AuthorityKept s (s.setBrake m b) := by
  constructor <;> first | rfl | (intro j; rfl) | (intro j; exact ⟨rfl, rfl⟩) | exact ⟨rfl, rfl⟩ | skip
  intro j
  simp only [State.setBrake_brakes, PerMotion.get_set]
  split
  · subst j; exact h
  · exact ⟨rfl, rfl, rfl, rfl⟩

theorem kept_setWalk (s : State) (w : Walk)
    (h : { w with walkL := 0, walkR := 0, stall := false, stallTimer := none, stallBase := 0, warnTimer := none,
                  validTimer := none, grantHeld := false } =
      { s.walk with walkL := 0, walkR := 0, stall := false, stallTimer := none, stallBase := 0, warnTimer := none,
                    validTimer := none, grantHeld := false }) : AuthorityKept s (s.setWalk w) := by
  constructor <;> first | rfl | exact h | (intro j; rfl) | (intro j; exact ⟨rfl, rfl⟩) | exact ⟨rfl, rfl⟩ |
    (intro j; exact ⟨rfl, rfl, rfl, rfl⟩)

theorem kept_setSwing (s : State) (w : SwingSup)
    (h : { w with tubLifted := false, steering := false, beaconRequest := false } =
      { s.swing with tubLifted := false, steering := false, beaconRequest := false }) : AuthorityKept s (s.setSwing w) := by
  constructor <;> first | rfl | exact h | (intro j; rfl) | (intro j; exact ⟨rfl, rfl⟩) | exact ⟨rfl, rfl⟩ |
    (intro j; exact ⟨rfl, rfl, rfl, rfl⟩)

theorem kept_setAlarms (s : State) (a : AlarmProc)
    (h : a.defs = s.alarms.defs ∧ a.driveInputs = s.alarms.driveInputs ∧ a.cabInputs = s.alarms.cabInputs ∧
      a.lastButtons = s.alarms.lastButtons) : AuthorityKept s (s.setAlarms a) := by
  constructor <;> first | rfl | exact h.1 | exact ⟨h.2.1, h.2.2.1⟩ | exact h.2.2.2 | (intro j; rfl) |
    (intro j; exact ⟨rfl, rfl⟩) | exact ⟨rfl, rfl⟩ | (intro j; exact ⟨rfl, rfl, rfl, rfl⟩)

/-- The grant, the horn generator and the beacon generator may change. -/
theorem kept_setAnn (s : State) (grant : Option Requester) (horn beacon : Gen) :
    AuthorityKept s (s.setAnn { s.ann with grant := grant, gens := { s.ann.gens with horn := horn, beacon := beacon } }) := by
  constructor <;> first | rfl | (intro j; rfl) | (intro j; exact ⟨rfl, rfl⟩) | exact ⟨rfl, rfl⟩ |
    (intro j; exact ⟨rfl, rfl, rfl, rfl⟩)

/-! ### Layer 1 -/

theorem kept_zeroWalkRefs (s : State) : AuthorityKept s (zeroWalkRefs s) := kept_setWalk s _ rfl

theorem kept_zeroReference (m : Motion) (s : State) : AuthorityKept s (zeroReference m s) := by
  have h : AuthorityKept s (s.setChannel m { s.channels.get m with r := 0 }) := kept_setChannel s m _ rfl
  cases m <;> first | exact h | exact h.trans (kept_zeroWalkRefs _)

theorem kept_enterSetting (m : Motion) (s : State) : AuthorityKept s (enterSetting m s) :=
  kept_setBrake s m _ ⟨rfl, rfl, rfl, rfl⟩

theorem kept_leaveReleased (m : Motion) (s : State) : AuthorityKept s (leaveReleased m s) :=
  (kept_enterSetting m s).trans (kept_zeroReference m _)

theorem kept_evalHoldToSet (m : Motion) (s : State) : AuthorityKept s (evalHoldToSet m s) := by
  unfold evalHoldToSet
  dsimp only
  repeat' split
  all_goals first
    | exact AuthorityKept.refl s
    | exact kept_leaveReleased m s
    | exact kept_setBrake s m _ ⟨rfl, rfl, rfl, rfl⟩

theorem kept_haltChannel (m : Motion) (tripped : Bool) (s : State) : AuthorityKept s (haltChannel m tripped s) := by
  have h : ∀ l, AuthorityKept s (s.setChannel m { s.channels.get m with armed := false, demand := false, history := l }) :=
    fun l => kept_setChannel s m _ rfl
  unfold haltChannel
  dsimp only
  split
  · exact (h _).trans (kept_zeroReference m _)
  · exact h _

theorem kept_haltBrake (m : Motion) (tripped : Bool) (s : State) : AuthorityKept s (haltBrake m tripped s) := by
  unfold haltBrake
  split
  · exact kept_enterSetting m s
  · split
    · exact kept_leaveReleased m s
    · exact kept_evalHoldToSet m s
  · exact AuthorityKept.refl s

theorem kept_enterHalt (m : Motion) (tripped : Bool) (s : State) : AuthorityKept s (enterHalt m tripped s) :=
  (kept_haltChannel m tripped s).trans (kept_haltBrake m tripped _)

theorem kept_insertStop (m : Motion) (i : Interlock) (s : State) : AuthorityKept s (insertStop m i s) := by
  unfold insertStop
  dsimp only
  split
  · exact kept_setReasons s m _
  · exact (kept_setReasons s m _).trans (kept_enterHalt m false _)

/-! ### Layer 2 -/

theorem kept_evalBeacon (s : State) : AuthorityKept s (evalBeacon s) := by
  unfold evalBeacon
  split
  · exact AuthorityKept.refl s
  · exact (kept_setSwing s { s.swing with beaconRequest := beaconCause s } rfl).trans
      (kept_setAnn _ s.ann.grant s.ann.gens.horn _)

theorem kept_liftTub (s : State) : AuthorityKept s (liftTub s) := by
  unfold liftTub
  split
  · exact AuthorityKept.refl s
  · dsimp only
    have h := (kept_setSwing s { s.swing with tubLifted := true, steering := false } rfl).trans
      (kept_insertStop .swing .tubLifted _)
    split
    · exact h.trans (kept_setReasons _ _ _)
    · exact h

theorem kept_departSet (m : Motion) (s : State) : AuthorityKept s (departSet m s) := by
  cases m
  · exact kept_insertStop _ _ _
  · exact kept_insertStop _ _ _
  · exact (kept_insertStop _ _ _).trans (kept_evalBeacon _)
  · exact (((kept_insertStop _ _ _).trans (kept_insertStop _ _ _)).trans (kept_liftTub _)).trans (kept_evalBeacon _)

theorem kept_beginRelease (m : Motion) (s : State) : AuthorityKept s (beginRelease m s) :=
  (kept_setBrake s m { s.brakes.get m with state := .releasing, releaseTimer := _ } ⟨rfl, rfl, rfl, rfl⟩).trans
    (kept_departSet m _)

theorem kept_testRelease (m : Motion) (s : State) : AuthorityKept s (testRelease m s) := by
  unfold testRelease
  split
  · exact kept_beginRelease m s
  · exact AuthorityKept.refl s

/-! ### Layer 3 -/

theorem kept_permitChanged (m : Motion) (p : Permit) (s : State) : AuthorityKept s (permitChanged m p s) := by
  cases p
  · exact kept_testRelease m s
  · exact kept_testRelease m s
  · exact kept_enterHalt m false s
  · exact kept_enterHalt m true s

theorem kept_replaceReasons (m : Motion) (rs : List Reason) (s : State) : AuthorityKept s (replaceReasons m rs s) := by
  unfold replaceReasons
  split
  · exact kept_setReasons s m rs
  · exact (kept_setReasons s m rs).trans (kept_permitChanged m _ _)

theorem kept_insertReason (m : Motion) (e : Reason) (s : State) : AuthorityKept s (insertReason m e s) :=
  kept_replaceReasons m _ s

theorem kept_removeReason (m : Motion) (src : Source) (s : State) : AuthorityKept s (removeReason m src s) :=
  kept_replaceReasons m _ s

theorem kept_setStop (m : Motion) (src : Source) (want : Bool) (s : State) : AuthorityKept s (setStop m src want s) := by
  unfold setStop
  split
  · exact kept_insertReason m _ s
  · exact kept_removeReason m src s

theorem kept_grantBegins (s : State) : AuthorityKept s (grantBegins s) := by
  unfold grantBegins
  split
  · exact kept_setWalk s _ rfl
  · exact AuthorityKept.refl s

theorem kept_grantEnds (s : State) : AuthorityKept s (grantEnds s) := kept_setWalk s _ rfl

theorem kept_arbitrate (s : State) : AuthorityKept s (arbitrate s) := by
  unfold arbitrate
  dsimp only
  split
  · exact AuthorityKept.refl s
  · have h : AuthorityKept s (if s.ann.grant = some .walk then grantEnds s else s) := by
      split
      · exact kept_grantEnds s
      · exact AuthorityKept.refl s
    have k := fun (t : State) => kept_setAnn t (highestRequester s) (hornGen t (highestRequester s)) t.ann.gens.beacon
    split
    · exact (h.trans (k _)).trans (kept_grantBegins _)
    · exact h.trans (k _)

theorem kept_testStallWatch (s : State) : AuthorityKept s (testStallWatch s) := by
  unfold testStallWatch
  repeat' split
  all_goals first | exact AuthorityKept.refl s | exact kept_setWalk s _ rfl

theorem kept_testValidity (s : State) : AuthorityKept s (testValidity s) := by
  unfold testValidity
  repeat' split
  all_goals first | exact AuthorityKept.refl s | exact kept_setWalk s _ rfl

theorem kept_testWalkTimers (s : State) : AuthorityKept s (testWalkTimers s) :=
  (kept_testStallWatch s).trans (kept_testValidity _)

/-! ### Free orders and folds -/

theorem kept_takeInOrder {α : Type} [DecidableEq α] (before : α → α → Bool) (f : α → State → State) (xs : List α)
    (s : State) (hf : ∀ x ∈ xs, ∀ t, AuthorityKept t (f x t)) : AuthorityKept s (takeInOrder before f xs s) :=
  takeInOrder_relates AuthorityKept AuthorityKept.refl AuthorityKept.trans before f xs s kept_freeIx hf

theorem kept_takeEither {α : Type} [DecidableEq α] (f : α → State → State) (xs : List α) (s : State)
    (hf : ∀ x ∈ xs, ∀ t, AuthorityKept t (f x t)) : AuthorityKept s (takeEither f xs s) :=
  kept_takeInOrder _ f xs s hf

theorem kept_foldl {α : Type} (f : α → State → State) (xs : List α) (s : State)
    (hf : ∀ x ∈ xs, ∀ t, AuthorityKept t (f x t)) : AuthorityKept s (xs.foldl (fun t x => f x t) s) :=
  foldl_keeps (fun t => AuthorityKept s t) f xs (fun x hx t h => h.trans (hf x hx t)) s (AuthorityKept.refl s)

end Sys2Proof.Machine
end

