-- ==== Sys2Proof/Laws/Alarms.lean ====
section
/-! SUPPORT. The alarm processor's operations and what closes every event leave alone what `AuthorityKept` lists. -/

namespace Sys2Proof.Machine
open Sys2Proof

theorem kept_setRun (n : Fin 64) (r : AlarmRun) (s : State) : AuthorityKept s (setRun n r s) :=
  kept_setAlarms s _ ⟨rfl, rfl, rfl, rfl⟩

theorem kept_evalAlarmHorn (s : State) : AuthorityKept s (evalAlarmHorn s) := by
  unfold evalAlarmHorn
  split
  · exact AuthorityKept.refl s
  · exact (kept_setAlarms s { s.alarms with hornRequest := hornCause s.alarms } ⟨rfl, rfl, rfl, rfl⟩).trans
      (kept_arbitrate _)

theorem kept_placeConsequence (n : Fin 64) (d : AlarmDef) (s : State) : AuthorityKept s (placeConsequence n d s) := by
  unfold placeConsequence
  split
  · exact AuthorityKept.refl s
  · exact kept_foldl _ _ s (fun m _ t => kept_insertReason m _ t)

theorem kept_dropConsequence (n : Fin 64) (d : AlarmDef) (s : State) : AuthorityKept s (dropConsequence n d s) := by
  unfold dropConsequence
  split
  · exact AuthorityKept.refl s
  · exact kept_foldl _ _ s (fun m _ t => kept_removeReason m _ t)

theorem kept_changeConsequence (n : Fin 64) (d : AlarmDef) (old new : AlarmState) (s : State) :
    AuthorityKept s (changeConsequence n d old new s) := by
  unfold changeConsequence
  split
  · exact kept_placeConsequence n d s
  · split
    · exact kept_dropConsequence n d s
    · exact AuthorityKept.refl s

theorem kept_markFirstOut (n : Fin 64) (d : AlarmDef) (s : State) : AuthorityKept s (markFirstOut n d s) := by
  unfold markFirstOut
  split
  · exact kept_setAlarms s _ ⟨rfl, rfl, rfl, rfl⟩
  · exact AuthorityKept.refl s

theorem kept_clearFirstOut (d : AlarmDef) (s : State) : AuthorityKept s (clearFirstOut d s) := by
  unfold clearFirstOut
  split
  · exact kept_setAlarms s _ ⟨rfl, rfl, rfl, rfl⟩
  · exact AuthorityKept.refl s

theorem kept_leaveActiveList (n : Fin 64) (d : AlarmDef) (s : State) : AuthorityKept s (leaveActiveList n d s) :=
  (kept_setAlarms s { s.alarms with active := s.alarms.active.erase n } ⟨rfl, rfl, rfl, rfl⟩).trans (kept_clearFirstOut d _)

theorem kept_moveAlarm (n : Fin 64) (d : AlarmDef) (new : AlarmState) (s : State) :
    AuthorityKept s (moveAlarm n d new s) := by
  unfold moveAlarm
  have h := kept_setRun n { s.alarms.runs[n] with state := new } s
  dsimp only
  split
  · exact ((h.trans (kept_leaveActiveList n d _)).trans (kept_changeConsequence n d _ new _)).trans (kept_evalAlarmHorn _)
  · exact (h.trans (kept_changeConsequence n d _ new _)).trans (kept_evalAlarmHorn _)

theorem kept_raiseAlarm (n : Fin 64) (d : AlarmDef) (s : State) : AuthorityKept s (raiseAlarm n d s) := by
  unfold raiseAlarm
  dsimp only
  refine AuthorityKept.trans ?_ (kept_moveAlarm n d .raised _)
  have h : ∀ t, AuthorityKept s t → AuthorityKept s (markFirstOut n d t) := fun t ht => ht.trans (kept_markFirstOut n d t)
  split
  · refine AuthorityKept.trans ?_ (kept_setAlarms _ _ ⟨rfl, rfl, rfl, rfl⟩)
    refine h _ (AuthorityKept.trans ?_ (kept_setAlarms _ _ ⟨rfl, rfl, rfl, rfl⟩))
    exact kept_setRun n _ s
  · refine h _ (AuthorityKept.trans ?_ (kept_setAlarms _ _ ⟨rfl, rfl, rfl, rfl⟩))
    exact kept_setRun n _ s

theorem kept_setFiltered (n : Fin 64) (d : AlarmDef) (v : Bool) (s : State) : AuthorityKept s (setFiltered n d v s) := by
  unfold setFiltered
  refine AuthorityKept.trans (kept_setRun n { s.alarms.runs[n] with filtered := v, delay := none } s) ?_
  dsimp only
  split <;> first | exact kept_raiseAlarm n d _ | exact kept_moveAlarm n d _ _ | exact AuthorityKept.refl _

theorem kept_setRaw (n : Fin 64) (d : AlarmDef) (v : Bool) (s : State) : AuthorityKept s (setRaw n d v s) := by
  unfold setRaw
  dsimp only
  repeat' split
  · exact (kept_setRun n _ s).trans (kept_setFiltered n d true _)
  · exact kept_setRun n _ s
  · exact (kept_setRun n _ s).trans (kept_setFiltered n d false _)
  · exact kept_setRun n _ s

theorem kept_reformRaw (n : Fin 64) (s : State) : AuthorityKept s (reformRaw n s) := by
  unfold reformRaw
  repeat' split
  · exact AuthorityKept.refl s
  · exact AuthorityKept.refl s
  · exact kept_setRaw n _ _ s

theorem kept_sourcesChanged (srcs : List AlarmSource) (s : State) : AuthorityKept s (sourcesChanged srcs s) :=
  kept_takeEither _ _ s (fun _ _ t => kept_takeEither _ _ t (fun n _ u => kept_reformRaw n u))

theorem kept_handConditions (s : State) : AuthorityKept s (handConditions s) :=
  (kept_setAlarms s { s.alarms with internals := internalBits s } ⟨rfl, rfl, rfl, rfl⟩).trans (kept_sourcesChanged _ _)

theorem kept_handCondition (c : Fin 20) (v : Bool) (s : State) : AuthorityKept s (handCondition c v s) :=
  AuthorityKept.trans (kept_setAlarms s { s.alarms with
    internals := if v then s.alarms.internals ||| 1#20 <<< c.val else s.alarms.internals &&& ~~~(1#20 <<< c.val) }
    ⟨rfl, rfl, rfl, rfl⟩) (kept_sourcesChanged _ _)

theorem kept_syncConditions (s : State) : AuthorityKept s (syncConditions s) :=
  (kept_handConditions s).trans (kept_handConditions _)

/-- What closes every event. -/
theorem kept_afterEvent (s : State) : AuthorityKept s (afterEvent s) :=
  ((kept_testValidity s).trans (kept_syncConditions _)).trans (kept_testWalkTimers _)

theorem kept_acknowledge (n : Fin 64) (s : State) : AuthorityKept s (acknowledge n s) := by
  unfold acknowledge
  repeat' split
  all_goals first | exact AuthorityKept.refl s | exact kept_moveAlarm n _ _ s

theorem kept_resetAlarm (n : Fin 64) (s : State) : AuthorityKept s (resetAlarm n s) := by
  unfold resetAlarm
  repeat' split
  all_goals first | exact AuthorityKept.refl s | exact kept_moveAlarm n _ _ s

theorem kept_setShelved (n : Fin 64) (t : Option (BitVec 32)) (s : State) : AuthorityKept s (setShelved n t s) :=
  (kept_setRun n _ s).trans (kept_evalAlarmHorn _)

/-- An internal condition at its owner is its place in the list of owned conditions (R133). -/
theorem conditionValue_eq_owned (s : State) (c : Fin 20) : conditionValue s c = (ownedConditions s).getD c.val false := by
  obtain ⟨n, h⟩ := c
  unfold conditionValue ownedConditions
  rcases n with _|_|_|_|_|_|_|_|_|_|_|_|_|_|_|_|_|_|_|_|n <;> first | rfl | omega

end Sys2Proof.Machine
end

