-- ==== Sys2Proof/Laws/Framing.lean ====
section
/-! SUPPORT. What the receiver does with one bit and with a line in parts (R170), cited in place of its definition. -/

namespace Sys2Proof.Machine
open Sys2Proof

@[simp] theorem receive_nil (r : Receiver) : receive r [] = [] := rfl

theorem receive_cons (r : Receiver) (bit : Bool) (rest : List Bool) :
    receive r (bit :: rest) = (receiveBit r bit).2.toList ++ receive (receiveBit r bit).1 rest := rfl

@[simp] theorem listen_nil (r : Receiver) : listen r [] = r := rfl

theorem listen_cons (r : Receiver) (bit : Bool) (rest : List Bool) :
    listen r (bit :: rest) = listen (receiveBit r bit).1 rest := rfl

theorem listen_append (r : Receiver) (first second : List Bool) :
    listen r (first ++ second) = listen (listen r first) second := by simp [listen]

/-- A line in two parts: the frames that end in the first, then those that end in the second from the receiver left. -/
theorem receive_append (r : Receiver) (first second : List Bool) :
    receive r (first ++ second) =
      receive r first ++ receive (listen r first) second := by
  induction first generalizing r with
  | nil => rfl
  | cons bit rest ih => simp [receive_cons, listen_cons, ih]

/-- A one short of the seventh joins the bits received. -/
theorem receiveBit_one (ones : Nat) (since : Option (List Bool)) (h : ones ≠ 6) :
    receiveBit ⟨ones, since⟩ true = (⟨ones + 1, since.map (fun bits => bits ++ [true])⟩, none) := by
  simp [receiveBit, h]

/-- A zero that completes no flag joins the bits received. -/
theorem receiveBit_zero (ones : Nat) (since : Option (List Bool)) (h : ones ≠ 6) :
    receiveBit ⟨ones, since⟩ false = (⟨0, since.map (fun bits => bits ++ [false])⟩, none) := by
  simp [receiveBit, h]

@[simp] theorem receiveBit_flag (since : Option (List Bool)) :
    receiveBit ⟨6, since⟩ false = (⟨0, some []⟩, since.map (endedFrame 7 false)) := rfl

@[simp] theorem receiveBit_abort (since : Option (List Bool)) :
    receiveBit ⟨6, since⟩ true = (⟨7, none⟩, since.map abortedFrame) := rfl

/-- The frame that an abort ends is without the abort's ones where it is not too long already. -/
theorem abortedFrame_of_short (bits : List Bool) (h : holdsTooMuch bits = false) :
    abortedFrame bits = endedFrame 6 true bits := by simp [abortedFrame, h]

/-- A frame that is too long is so under the link checks, whatever ends it. -/
theorem linkCheck_of_holdsTooMuch (bits : List Bool) (aborted : Bool) (h : holdsTooMuch bits = true) :
    linkCheck ⟨bits, aborted⟩ = .failed .long := by
  have hl : 125 ≤ (bytesOf (removeZeros 0 bits)).length := by simpa [holdsTooMuch] using h
  have hb : (bytesOf (removeZeros 0 bits)).isEmpty = false := by
    cases hx : bytesOf (removeZeros 0 bits) with
    | nil => rw [hx] at hl; simp at hl
    | cons _ _ => rfl
  have hr : bits.isEmpty = false := by
    cases bits with
    | nil => simp [removeZeros, bytesOf] at hl
    | cons _ _ => rfl
  have hs : ¬ (bytesOf (removeZeros 0 bits)).length ≤ 3 := by omega
  simp [linkCheck, hb, hr, hs, hl]

/-- A waiting receiver delivers nothing while the line idles with ones. -/
theorem receive_idle (ones n : Nat) : receive ⟨ones, none⟩ (List.replicate n true) = [] := by
  induction n generalizing ones with
  | zero => rfl
  | succ n ih => by_cases h : ones = 6 <;> simp [List.replicate_succ, receive_cons, receiveBit, h, ih]

end Sys2Proof.Machine
end

