-- ==== Sys2Proof/Laws/Reasons.lean ====
section
/-! SUPPORT. The reason sets: which sources stand after an insertion or a removal, that sources stay distinct, and what a
permit state says of the entries. -/

namespace Sys2Proof.Machine
open Sys2Proof

theorem hasSource_iff (rs : List Reason) (src : Source) : hasSource rs src = true ↔ ∃ e ∈ rs, e.source = src := by
  simp [hasSource]

/-- An update in place keeps every source. -/
theorem map_update_sources (rs : List Reason) (e : Reason) :
    (rs.map (fun x => if x.source = e.source then { x with effect := x.effect.updated e.effect } else x)).map
      Reason.source = rs.map Reason.source := by
  rw [List.map_map]
  apply List.map_congr_left
  intro x _
  simp only [Function.comp]
  split <;> rfl

/-- The sources after an insertion: as they were, or with the new one at the tail (R3). -/
theorem insertEntry_sources (rs : List Reason) (e : Reason) :
    (insertEntry rs e).map Reason.source =
      if hasSource rs e.source then rs.map Reason.source else rs.map Reason.source ++ [e.source] := by
  unfold insertEntry
  split
  · exact map_update_sources rs e
  · simp

theorem removeEntry_sources (rs : List Reason) (src : Source) :
    (removeEntry rs src).map Reason.source = (rs.map Reason.source).filter (fun x => !decide (x = src)) := by
  simp [removeEntry, List.filter_map, Function.comp_def]

theorem hasSource_eq_contains (rs : List Reason) (src : Source) :
    hasSource rs src = decide (src ∈ rs.map Reason.source) := by
  simp [hasSource, List.any_eq]

/-- After an insertion the source stands, and every other stands as before. -/
theorem hasSource_insertEntry (rs : List Reason) (e : Reason) (src : Source) :
    hasSource (insertEntry rs e) src = (decide (src = e.source) || hasSource rs src) := by
  simp only [hasSource_eq_contains, insertEntry_sources]
  split
  · rename_i h
    rw [decide_eq_true_eq] at h
    by_cases hs : src = e.source
    · subst hs; simp [h]
    · simp [hs]
  · simp [List.mem_append, Bool.or_comm]

/-- After a removal the source is gone, and every other stands as before. -/
theorem hasSource_removeEntry (rs : List Reason) (r src : Source) :
    hasSource (removeEntry rs r) src = (!decide (src = r) && hasSource rs src) := by
  simp only [hasSource_eq_contains, removeEntry_sources, List.mem_filter]
  by_cases h : src = r <;> simp [h]

theorem insertEntry_nodup (rs : List Reason) (e : Reason) (h : (rs.map Reason.source).Nodup) :
    ((insertEntry rs e).map Reason.source).Nodup := by
  rw [insertEntry_sources]
  split
  · exact h
  · rename_i hs
    rw [hasSource_eq_contains] at hs
    rw [List.nodup_append]
    refine ⟨h, by simp, ?_⟩
    intro a ha b hb hab
    rw [List.mem_singleton] at hb
    subst hb; subst hab
    exact hs (by simpa using ha)

theorem removeEntry_nodup (rs : List Reason) (src : Source) (h : (rs.map Reason.source).Nodup) :
    ((removeEntry rs src).map Reason.source).Nodup := by
  rw [removeEntry_sources]
  exact h.filter _

theorem mem_removeEntry (rs : List Reason) (src : Source) (e : Reason) :
    e ∈ removeEntry rs src ↔ e ∈ rs ∧ e.source ≠ src := by
  simp [removeEntry]

/-- An entry after an insertion is an old one, the new one, or an old one with the request's cap. -/
theorem mem_insertEntry (rs : List Reason) (e x : Reason) (h : x ∈ insertEntry rs e) :
    x ∈ rs ∨ x = e ∨ ∃ y ∈ rs, y.source = e.source ∧ x = { y with effect := y.effect.updated e.effect } := by
  unfold insertEntry at h
  split at h
  · obtain ⟨y, hy, rfl⟩ := List.mem_map.mp h
    by_cases hs : y.source = e.source
    · exact .inr (.inr ⟨y, hy, hs, by simp [hs]⟩)
    · exact .inl (by simpa [hs] using hy)
  · rcases List.mem_append.mp h with h | h
    · exact .inl h
    · exact .inr (.inl (List.mem_singleton.mp h))

/-! ### Permit states (R7) -/

theorem Effect.isTrip_iff (e : Effect) : e.isTrip = true ↔ e = .trip := by cases e <;> simp [Effect.isTrip]
theorem Effect.isStop_iff (e : Effect) : e.isStop = true ↔ e = .stop := by cases e <;> simp [Effect.isStop]

theorem permitOf_tripped_iff (rs : List Reason) : permitOf rs = .tripped ↔ ∃ e ∈ rs, e.effect = .trip := by
  constructor
  · intro h
    unfold permitOf at h
    split at h
    · rename_i ha
      obtain ⟨e, he, ht⟩ := List.any_eq_true.mp ha
      exact ⟨e, he, (Effect.isTrip_iff _).mp ht⟩
    · split at h
      · cases h
      · split at h <;> cases h
  · rintro ⟨e, he, ht⟩
    have : rs.any (fun e => e.effect.isTrip) = true := List.any_eq_true.mpr ⟨e, he, (Effect.isTrip_iff _).mpr ht⟩
    simp [permitOf, this]

/-- A motion is STOPPED or TRIPPED exactly while its reason set holds a STOP or a TRIP. -/
theorem permitOf_halts_iff (rs : List Reason) :
    (permitOf rs).halts = true ↔ ∃ e ∈ rs, e.effect = .stop ∨ e.effect = .trip := by
  unfold permitOf
  split
  · rename_i ha
    obtain ⟨e, he, ht⟩ := List.any_eq_true.mp ha
    exact ⟨fun _ => ⟨e, he, .inr ((Effect.isTrip_iff _).mp ht)⟩, fun _ => rfl⟩
  · rename_i ha
    split
    · rename_i hb
      obtain ⟨e, he, hs⟩ := List.any_eq_true.mp hb
      exact ⟨fun _ => ⟨e, he, .inl ((Effect.isStop_iff _).mp hs)⟩, fun _ => rfl⟩
    · rename_i hb
      have hno : ¬∃ e ∈ rs, e.effect = .stop ∨ e.effect = .trip := by
        rintro ⟨e, he, h | h⟩
        · exact hb (List.any_eq_true.mpr ⟨e, he, (Effect.isStop_iff _).mpr h⟩)
        · exact ha (List.any_eq_true.mpr ⟨e, he, (Effect.isTrip_iff _).mpr h⟩)
      split <;> simp [Permit.halts, hno]

end Sys2Proof.Machine
end

