-- ==== Sys2Proof/Laws/Requests.lean ====
section
/-! SUPPORT. Monitor requests: a request that stands to be taken is judged and answered, and an answer is what R177 says of
it; a running part's command is its own meaning. -/

namespace Sys2Proof.Machine
open Sys2Proof

@[simp] theorem whenRunning_of_running (f : State → State) (s : State) (h : s.held = false) : whenRunning f s = f s := by
  simp [whenRunning, h]

@[simp] theorem whenRunning_of_held (f : State → State) (s : State) (h : s.held = true) : whenRunning f s = s := by
  simp [whenRunning, h]

theorem Takes.running {dest : Dest} {kind : Byte} {body : List Byte} {s : State} (h : Takes dest kind body s) :
    s.held = false := h.1

theorem Takes.atHead {dest : Dest} {kind : Byte} {body : List Byte} {s : State} (h : Takes dest kind body s) :
    atHead dest kind body s = true := by
  simp [Machine.atHead, h.2.1, h.2.2]

/-- The part after an answer. -/
theorem answer_eq_answered (dest : Dest) (kind : Byte) (code : ResultCode) (data : List Byte) (s : State) :
    answer dest kind ⟨s, code, data⟩ = answered dest kind code data s := by cases dest <;> rfl

/-- A request that stands to be taken is carried out and answered. -/
theorem takeRequest_of_takes {dest : Dest} {kind : Byte} {body : List Byte} {s : State} (rule : State → Done)
    (h : Takes dest kind body s) :
    takeRequest dest kind body rule s = answered dest kind (rule s).code (rule s).data (rule s).state := by
  rw [takeRequest, if_pos h.atHead, ← answer_eq_answered]

/-- A request that is not there to be taken changes nothing (log entry 9). -/
theorem takeRequest_of_not_head {dest : Dest} {kind : Byte} {body : List Byte} {s : State} (rule : State → Done)
    (h : atHead dest kind body s = false) : takeRequest dest kind body rule s = s := by
  simp [takeRequest, h]

/-- A request of the right format in one of its modes is judged by its own rule (R178). -/
theorem judge_of_mode {kind : Byte} {body : List Byte} {modes : List Mode} {s : State} (rule : State → Done)
    (hf : requestFits kind body = true) (hm : s.ctl.mode ∈ modes) : judge kind body modes rule s = rule s := by
  simp [judge, hf, inMode, hm]

/-- Outside its modes it is WRONG_MODE (R178). -/
theorem judge_wrong_mode {kind : Byte} {body : List Byte} {modes : List Mode} {s : State} (rule : State → Done)
    (hf : requestFits kind body = true) (hm : s.ctl.mode ∉ modes) :
    judge kind body modes rule s = refuse .wrongMode s := by
  simp [judge, hf, inMode, hm]

theorem mem_anyMode (m : Mode) : m ∈ anyMode := by cases m <;> decide

/-- An answer keeps what the carrying out has kept, links apart: it touches the monitor port alone. -/
theorem answered_links (dest : Dest) (kind : Byte) (code : ResultCode) (data : List Byte) (s : State) :
    { answered dest kind code data s with links := s.links } = s := by cases dest <;> rfl

/-- Answering after a change of reasons keeps what answering before it would. -/
theorem AuthorityKept.answer {u t : State} (dest : Dest) (kind : Byte) (code : ResultCode) (data : List Byte)
    (h : AuthorityKept u t) : AuthorityKept (answered dest kind code data u) (answered dest kind code data t) := by
  cases dest <;>
    exact {
      pending := h.pending, held := h.held, zones := h.zones, axisParams := h.axisParams, tracker := h.tracker,
      machine := h.machine, hd := h.hd, ctl := h.ctl,
      links := by simp only [answered, h.links],
      zoneCaps := h.zoneCaps, channels := h.channels, brakes := h.brakes, swing := h.swing, walk := h.walk,
      defs := h.defs, inputs := h.inputs, lastButtons := h.lastButtons, annunciator := h.annunciator,
      lampGens := h.lampGens }

/-! ### One command at a time -/

theorem step_of_front (c : Instr) (rest : List Instr) (s : State) (h : s.pending = c :: rest) :
    step s = exec c { s with pending := rest } := by simp [step, h]

theorem step_of_empty (s : State) (h : s.pending = []) : step s = .next s := by simp [step, h]

end Sys2Proof.Machine
end

