-- ==== Sys2Proof/Tests/Slice0.lean ====
section
/-! SUPPORT. The model's own tests: an ill-formed command for each check of WellFormed; steps whose expected results are
the worked examples of spec/ or a hand calculation from its rules; and for every statement with hypotheses a named state
and operands that meet them, each clause at a boundary of its range. -/

namespace Sys2Proof.Tests
set_option Elab.async false
open Sys2Proof Sys2Proof.Machine

/-! ### Helpers -/

/-- Whether a command answers a next state that passes a check. -/
def got (c : Instr) (s : State) (check : State → Bool) : Bool :=
  match exec c s with
  | .next t => check t
  | _ => false

/-- Whether a step answers a next state that passes a check. -/
def stepped? (s : State) (check : State → Bool) : Bool :=
  match step s with
  | .next t => check t
  | _ => false

/-- The next state of a step that the check finds. -/
theorem next_of_stepped? {s : State} {check : State → Bool} (h : stepped? s check = true) :
    ∃ t, step s = .next t ∧ check t = true := by
  unfold stepped? at h
  split at h
  · exact ⟨_, ‹_›, h⟩
  · cases h

/-- A part with one command waiting. -/
def before (c : Instr) (s : State) : State := { s with pending := [c] }

/-- The part just after a POWER_ON reset, in another mode. -/
def inModeOf (mode : Mode) : State := { State.reset with ctl := { State.reset.ctl with mode := mode } }

/-- A part whose oldest request is the given one, with no response being sent. -/
def asked (dest : Dest) (kind : Byte) (body : List Byte) (s : State) : State :=
  { s with links := { s.links with monitor := { s.links.monitor with buffer := [⟨dest, kind, body⟩], response := none } } }

theorem takes_asked (dest : Dest) (kind : Byte) (body : List Byte) (s : State) (h : s.held = false) :
    Takes dest kind body (asked dest kind body s) := ⟨h, rfl, rfl⟩

/-- The result code of the response being sent. -/
def codeOf (s : State) : Option ResultCode := s.links.monitor.response.map Response.code

/-- A request sent to the station, taken by its row, gives a result code. -/
def answers (row : Dest → List Byte → Instr) (kind : Byte) (body : List Byte) (s : State) (code : ResultCode) : Bool :=
  got (row .station body) (asked .station kind body s) (fun t => decide (codeOf t = some code))

def withBrake (m : Motion) (st : BrakeState) (s : State) : State :=
  s.setBrake m { s.brakes.get m with state := st }

def withReasons (m : Motion) (rs : List Reason) (s : State) : State :=
  s.setRecord m { s.records.get m with reasons := rs }

/-- The part with one alarm defined, in a state. -/
def withAlarm (n : Fin 64) (d : AlarmDef) (st : AlarmState) (s : State) : State :=
  s.setAlarms { s.alarms with
    defs := s.alarms.defs.set n (some d), runs := s.alarms.runs.set n { s.alarms.runs[n] with state := st },
    active := if st = .normal then s.alarms.active else s.alarms.active ++ [n] }

/-- A STOP alarm on HOIST, sounding the horn. -/
def stopAlarm (c : Fin 20) : AlarmDef :=
  { source := .internal c, polarity := .activeTrue, cls := .stop, motions := ⟨true, false, false, false⟩, delayOn := 1,
    latching := true, horn := true }

/-- An advisory alarm on a drive input. -/
def advisory : AlarmDef :=
  { source := .driveInput 31, polarity := .activeTrue, cls := .advisory, motions := ⟨false, false, false, false⟩,
    delayOn := 0, latching := false, horn := true }

def bytes (ns : List Nat) : List Byte := ns.map byteOf

/-! ### Well-formed commands: one ill-formed command for each check -/

theorem test_refuses_cab_length : Instr.wellFormed (.cabCommand (List.replicate 11 0#8)) = false := by decide
theorem test_refuses_drive_length : Instr.wellFormed (.driveFeedback (List.replicate 34 0#8)) = false := by decide
theorem test_refuses_line_without_end : Instr.wellFormed (.frameCheckFailed .cab (flagBits ++ List.replicate 6 true)) = false := by
  decide
theorem test_refuses_long_body : Instr.wellFormed (.monitorFrameReceived 0xFF#8 0x22#8 (List.replicate 121 0#8)) = false := by
  decide
theorem test_refuses_known_kind : Instr.wellFormed (.unknownKind .station 0x20#8 []) = false := by decide
theorem test_refuses_good_format : Instr.wellFormed (.badFormat .station 0x29#8 []) = false := by decide
theorem test_refuses_read_length : Instr.wellFormed (.tableRead .station [1#8]) = false := by decide
theorem test_refuses_term_bits : Instr.wellFormed (.tableWriteChannel .station (bytes (1 :: 0 :: 0 :: 0 :: 0xA0 ::
    List.replicate 32 0))) = false := by decide
theorem test_refuses_absent_term : Instr.wellFormed (.tableWriteChannel .station (bytes (1 :: 0 :: 0 :: 0 :: 0x40 ::
    List.replicate 32 0))) = false := by decide
theorem test_refuses_zone_count : Instr.wellFormed (.tableWriteZones .station (bytes [2, 0, 2, 0, 0, 0, 0, 0, 0])) = false := by
  decide
theorem test_refuses_motion_bits : Instr.wellFormed (.holdSet .station (bytes [16])) = false := by decide
theorem test_refuses_other_table : Instr.wellFormed (.tableWriteAxis .station (bytes [6, 0, 1, 1, 0, 0])) = false := by
  decide
theorem test_refuses_short_write : Instr.wellFormed (.tableWriteMachine .station (bytes [8])) = false := by decide
theorem test_takes_unknown_table : Instr.wellFormed (.tableWriteAxis .station (bytes [9, 0])) = true := by decide
theorem test_takes_pattern : Instr.wellFormed (.tableWritePattern .broadcast (bytes [6, 5, 9, 9, 7, 0])) = true := by decide

/-! ### Worked examples and hand calculations -/

/-- R9, the example: POS 650 and NEG 1000 with SLOW BOTH 400 and PLUGGING NEG 300. -/
def exampleRecord : Record := ⟨[⟨.alarm 5, .cap 400 .both⟩, ⟨.interlock .plugging, .cap 300 .neg⟩], 650, 1000⟩

theorem test_R9_both_caps : (effectiveCap exampleRecord .pos, effectiveCap exampleRecord .neg) = (400, 300) := by decide
theorem test_R9_after_removal :
    let r := { exampleRecord with reasons := removeEntry exampleRecord.reasons (.alarm 5) }
    (effectiveCap r .pos, effectiveCap r .neg) = (650, 300) := by decide

/-- R29: a raw count that wraps from 65535 to 0, and the delta of magnitude 32768 under both polarities. -/
theorem test_R29_wrap : rawDelta AxisParams.fresh 65535 0 = 1 := by decide
theorem test_R29_inverted :
    (rawDelta AxisParams.fresh 0 32768, rawDelta { AxisParams.fresh with polarity := .inverted } 0 32768) =
      (-32768, 32768) := by decide

/-- R50, the example. -/
theorem test_R50_example : (deadband 40 640, deadband 40 (-41), deadband 40 40) = (625, -1, 0) := by decide

/-- R65: the correct sum of the fixed arithmetic test. -/
theorem test_R65_sum :
    (chainOutputs fixedParams (List.replicate 8 0) standardInputs).sum = 974 := by decide +kernel

/-- R170: the check value of the nine bytes "123456789" is the known one of this polynomial, preset and complement. -/
theorem test_R170_fcs : fcsOf (bytes [0x31, 0x32, 0x33, 0x34, 0x35, 0x36, 0x37, 0x38, 0x39]) = 0x906E#16 := by
  decide +kernel

/-- R170: a zero follows five ones, whatever follows. -/
theorem test_R170_stuffing :
    insertZeros 0 (bitsOfByte 0x1F#8) = [true, true, true, true, true, false, false, false, false] := by decide

/-- R181: lever -1000 is 0xFC18, low byte first; the button and hold bits stand where the layout has them. -/
theorem test_R181_cab :
    let f := cabFrameOf (bytes [0x18, 0xFC, 0, 0, 0, 0, 0xE8, 3, 0x21, 8, 1, 0x80])
    (f.levers.hoist, f.levers.walk, f.walkSelect, f.lampTest, f.holds.walk, f.inputs) =
      (-1000, 1000, true, true, true, 0x8001#16) := by decide

/-! ### Steps, resets and the queue: witnesses and tests -/

/-- The part with the release of the reset line waiting, which leaves a running part as it is. -/
def queued (s : State) : State := { s with pending := [.lineResetRelease] }

theorem step_queued (s : State) (hp : s.pending = []) (hh : s.held = false) : step (queued s) = .next s := by
  obtain ⟨⟩ := s
  simp only at hp hh
  subst hp hh
  rfl

theorem witness_StepTakesTheFrontCommand :
    (queued State.reset).pending = .lineResetRelease :: [] ∧ State.reset.pending = [] := ⟨rfl, rfl⟩

def heldPart : State := { State.reset with held := true }

theorem witness_HeldPartStandsStill :
    heldPart.held = true ∧ (∀ n, Instr.machineTimeTick ≠ .powerOn n) ∧ Instr.machineTimeTick ≠ .lineResetRelease :=
  ⟨rfl, fun _ => nofun, nofun⟩

/-- A restart has been answered, and its response is being sent. -/
def restarting : State :=
  { State.reset with links := { State.reset.links with monitor := { State.reset.links.monitor with
      response := some ⟨0x32#8, .accepted, []⟩ } } }

theorem witness_ResetsPutTheResetState :
    State.reset.held = false ∧ restarting.held = false ∧
      restarting.links.monitor.response = some ⟨0x32#8, .accepted, []⟩ ∧
      (Takes .broadcast 0x32#8 [] (asked .broadcast 0x32#8 [] State.reset) ∧
        (asked .broadcast 0x32#8 [] State.reset).ctl.mode ≠ .ready) ∧
      (Takes .station 0x32#8 [] (asked .station 0x32#8 [] (inModeOf .lockout)) ∧
        (asked .station 0x32#8 [] (inModeOf .lockout)).ctl.mode ≠ .ready) ∧
      (Takes .station 0x32#8 [] (asked .station 0x32#8 [] (inModeOf .ready)) ∧
        (asked .station 0x32#8 [] (inModeOf .ready)).ctl.mode = .ready) :=
  ⟨rfl, rfl, rfl, ⟨takes_asked _ _ _ _ rfl, by decide⟩, ⟨takes_asked _ _ _ _ rfl, by decide⟩,
    ⟨takes_asked _ _ _ _ rfl, rfl⟩⟩

/-- R168: a LINE reset keeps an occurrence count and reads the straps; POWER_ON clears the count. -/
def counted : State := setRun 63 { AlarmRun.fresh with count := 255 } (inModeOf .lockout)

theorem test_line_reset_keeps_counts :
    got (.lineResetAssert 15) counted (fun t => decide ((t.alarms.runs[63]).count = 255) && t.held &&
      decide (t.ctl.mode = .config) && decide (t.ctl.resetCause = .line) && decide (t.links.station = 15)) = true := by
  decide +kernel

theorem test_power_on_clears_counts :
    got (.powerOn 0) counted (fun t => decide ((t.alarms.runs[63]).count = 0) && decide (t = State.reset)) = true := by
  decide +kernel

theorem test_reset_line_released : got .lineResetRelease heldPart (fun t => decide (t = State.reset)) = true := by
  decide +kernel

/-! ### The authority table -/

theorem witness_InsertionAndRemovalKeepTheOrder :
    insertReason .hoist ⟨.hold .cab, .stop⟩ State.reset = insertReason .hoist ⟨.hold .cab, .stop⟩ State.reset ∧
      Motion.drag ≠ Motion.hoist := ⟨rfl, by decide⟩

/-- A hoist in FREE whose brake is being released. -/
def freeHoist : State := withReasons .hoist [] (withBrake .hoist .releasing State.reset)

/-- A hoist that a CAB hold stops, in SET with demand. -/
def heldHoist : State :=
  let s := withReasons .hoist [⟨.hold .cab, .stop⟩] (withBrake .walk .set (withBrake .hoist .set State.reset))
  s.setChannel .hoist { Channel.fresh with demand := true }

theorem witness_PermitChangeActsAtOnce :
    ((insertReason .hoist ⟨.hold .cab, .stop⟩ freeHoist).permit .hoist = .stopped ∧ freeHoist.permit .hoist = .free ∧
      (insertReason .hoist ⟨.notRunning, .trip⟩ freeHoist).permit .hoist = .tripped) ∧
    ((removeReason .hoist (.hold .cab) heldHoist).permit .hoist = .free ∧ heldHoist.permit .hoist = .stopped ∧
      (heldHoist.brakes.get .hoist).state = .set ∧ (heldHoist.channels.get .hoist).demand = true ∧
      ReleaseLetBy heldHoist .hoist) ∧
    ((removeReason .hoist (.hold .cab) (withBrake .walk .setting heldHoist)).permit .hoist = .free ∧
      ¬ReleaseLetBy (withBrake .walk .setting heldHoist) .hoist) := by
  unfold ReleaseLetBy; decide +kernel

/-- R69, R70: the permit that becomes FREE begins the release, unless the walk brake is outside SET. -/
theorem test_free_begins_release :
    (removeReason .hoist (.hold .cab) heldHoist).brakes.hoist =
        { heldHoist.brakes.hoist with state := .releasing, releaseTimer := some ⟨0, 150⟩ } ∧
      (removeReason .hoist (.hold .cab) (withBrake .walk .setting heldHoist)).brakes.hoist = heldHoist.brakes.hoist := by
  decide +kernel

/-- R7, R71: an entry into STOPPED sends a sequencer in RELEASING to SETTING. -/
theorem test_stop_ends_release :
    ((insertReason .hoist ⟨.hold .cab, .stop⟩ freeHoist).brakes.get .hoist).state = .setting := by decide +kernel

theorem witness_EffectiveCapIsTheLeast :
    (⟨.alarm 5, .cap 400 .both⟩ : Reason) ∈ exampleRecord.reasons ∧ CapDir.covers .both .pos = true := by decide

theorem witness_PrimaryCauseIsTheOldestHalt :
    hasSource (State.reset.records.get .hoist).reasons (.hold .drive) = true ∧
      primaryCause (State.reset.records.get .hoist).reasons = some .notRunning ∧
      (∃ e ∈ (State.reset.records.get .hoist).reasons, e.effect = .trip) ∧
      (¬(∃ e ∈ (heldHoist.records.get .hoist).reasons, e.effect = .trip) ∧
        ∃ e ∈ (heldHoist.records.get .hoist).reasons, e.effect = .stop) ∧
      (¬(∃ e ∈ exampleRecord.reasons, e.effect = .trip) ∧ ¬(∃ e ∈ exampleRecord.reasons, e.effect = .stop) ∧
        exampleRecord.reasons ≠ []) ∧ (freeHoist.records.get .hoist).reasons = [] := by decide

/-- R8: a TRIP that arrives later does not displace an older STOP. -/
theorem test_R8_age : primaryCause [⟨.alarm 1, .cap 0 .both⟩, ⟨.hold .cab, .stop⟩, ⟨.notRunning, .trip⟩] =
    some (.hold .cab) := by decide

/-! ### The laws of a step: a walking machine, with an acknowledged alarm, meets every one of them -/

def walkingChannel : Channel :=
  { Channel.fresh with latched := 500, armed := true, y := 500, c := 500, r := 500, demand := true, peak := 1000 }

def standing (st : BrakeState) : Brake := { Brake.fresh with state := st, setTimer := none }

/-- READY, walk selected and warned, the walk brake released, and the walk channel moving; alarm 63 is HELD, its drive
input true. -/
def walking : State :=
  withAlarm 63 advisory .held
    { State.reset with
      alarms := { AlarmProc.fresh with
        driveInputs := some 0x80000000#32, runs := AlarmProc.fresh.runs.set 63 { AlarmRun.fresh with raw := true, filtered := true } }
      ctl := { State.reset.ctl with mode := .ready, testTimer := some ⟨99, 100⟩ }
      records := ⟨⟨[⟨.interlock .walkEngaged, .stop⟩], 0, 0⟩, ⟨[⟨.interlock .walkEngaged, .stop⟩], 0, 0⟩,
        ⟨[⟨.interlock .tubLifted, .stop⟩], 0, 0⟩, ⟨[], 1000, 1000⟩⟩
      brakes := ⟨standing .set, standing .set, standing .set, standing .released⟩
      channels := ⟨Channel.fresh, Channel.fresh, Channel.fresh, walkingChannel⟩
      hd := { HoistDrag.fresh with grounded := true }
      swing := { SwingSup.fresh with window := true }
      walk := { Walk.fresh with walkL := 500, walkR := 0, selection := .selected, lastSelect := some true,
                                warning := .complete } }

theorem step_walking : step (queued walking) = .next walking := step_queued walking rfl rfl

theorem SourcesDistinct_walking : SourcesDistinct (queued walking) := by intro m; cases m <;> decide +kernel
theorem InterlocksPlaced_walking : InterlocksPlaced (queued walking) := by
  intro m e he i hi
  cases m <;> simp [queued, walking, withAlarm, State.setAlarms, PerMotion.get] at he <;> subst he <;> cases hi <;> decide
theorem LimitKept_walking : LimitKept (queued walking) := by unfold LimitKept; decide +kernel
theorem ConsequencesExact_walking : ConsequencesExact (queued walking) := by
  refine ⟨by decide +kernel, fun n m => ?_⟩
  revert n
  cases m <;> decide +kernel
theorem EffectsAsCatalogued_reset (s : State) (h : s.records = State.reset.records) : EffectsAsCatalogued s := by
  intro m e he
  rw [h] at he
  cases m
  case walk =>
    change e ∈ [_, _, _, _, _] at he
    simp only [List.mem_cons, List.not_mem_nil, or_false] at he
    rcases he with rfl | rfl | rfl | rfl | rfl <;> rfl
  all_goals
    change e ∈ [_, _, _] at he
    simp only [List.mem_cons, List.not_mem_nil, or_false] at he
    rcases he with rfl | rfl | rfl <;> rfl
theorem EffectsAsCatalogued_walking : EffectsAsCatalogued (queued walking) := by
  intro m e he
  cases m <;> simp [queued, walking, withAlarm, State.setAlarms, PerMotion.get] at he <;> subst he <;> rfl
theorem TracksInRange_walking : TracksInRange (queued walking) := by intro a; cases a <;> decide +kernel
theorem ChannelsInRange_walking : ChannelsInRange (queued walking) := by
  intro m
  cases m <;> (unfold perMille; decide +kernel)
theorem GateLaw_walking : GateLaw (queued walking) where
  timers := by unfold ModeTimersInMode; decide +kernel
  notRunning := by intro m; cases m <;> decide +kernel
  effects := EffectsAsCatalogued_walking
  gate := by intro m; cases m <;> decide +kernel
  brakes := by intro m; cases m <;> decide +kernel
theorem ReleasesApart_walking : ReleasesApart (queued walking) := by
  intro _ m hm
  cases m <;> first | rfl | exact absurd rfl hm
theorem BrakeTimersInState_walking : BrakeTimersInState (queued walking) := by intro m; cases m <;> decide +kernel
theorem WalkReferencesBounded_walking : WalkReferencesBounded (queued walking) := by
  rintro x (rfl | rfl) <;> decide +kernel
theorem InterlocksMatch_walking : InterlocksMatch (queued walking) := by constructor <;> decide +kernel
theorem WarningInStep_walking : WarningInStep (queued walking) := by constructor <;> decide +kernel
theorem PluggingMatches_walking : PluggingMatches (queued walking) := by unfold PluggingMatches; decide +kernel
theorem PreconditionsMatch_walking : PreconditionsMatch (queued walking) where
  gate := by decide +kernel
  unselected := by decide +kernel
  taken := by decide +kernel
theorem ConditionsHandedOn_walking : ConditionsHandedOn (queued walking) := by unfold ConditionsHandedOn; decide +kernel
theorem WalkWarned_walking : WalkWarned (queued walking) := by unfold WalkWarned; decide +kernel
theorem ActiveListExact_walking : ActiveListExact (queued walking) := by unfold ActiveListExact; decide +kernel
theorem FirstOutBacked_walking : FirstOutBacked (queued walking) := by intro n h; cases h
theorem HornRequestExact_walking : HornRequestExact (queued walking) := by unfold HornRequestExact; decide +kernel
theorem GrantExact_walking : GrantExact (queued walking) := by unfold GrantExact; decide +kernel
theorem BeaconExact_walking : BeaconExact (queued walking) := by unfold BeaconExact; decide +kernel
theorem ReleasesFollowDemand_walking : ReleasesFollowDemand (queued walking) where
  begun := by unfold ReleaseWanted ReleaseLetBy; intro m; cases m <;> decide +kernel
  wanted := by unfold ReleaseWanted; intro m; cases m <;> decide +kernel
theorem WarningNeedsGrant_walking : WarningNeedsGrant (queued walking) := by constructor <;> decide +kernel
theorem ValidityTimed_walking : ValidityTimed (queued walking) := by unfold ValidityTimed; decide +kernel
theorem StallWatched_walking : StallWatched (queued walking) := by unfold StallWatched; decide +kernel
theorem ConsequenceEffects_walking : ConsequenceEffects (queued walking) := by
  intro m e he n hn
  cases m <;> simp [queued, walking, withAlarm, State.setAlarms, PerMotion.get] at he <;> subst he <;> cases hn
theorem defs_walking : ∀ n : Fin 64, (queued walking).alarms.defs[n] = if n = 63 then some advisory else none := by
  decide +kernel
/-- The one definition of the walking part. -/
theorem def_walking {n : Fin 64} {d : AlarmDef} (h : (queued walking).alarms.defs[n] = some d) : n = 63 ∧ d = advisory := by
  rw [defs_walking] at h
  split at h
  · exact ⟨‹_›, (Option.some.inj h).symm⟩
  · cases h
theorem ConditionsFollowSources_walking : ConditionsFollowSources (queued walking) := by
  constructor <;> (intro n d h; obtain ⟨rfl, rfl⟩ := def_walking h; decide +kernel)
theorem StatesFollowConditions_walking : StatesFollowConditions (queued walking) := by
  intro n d h
  obtain ⟨rfl, rfl⟩ := def_walking h
  decide +kernel
theorem TripsLatch_walking : TripsLatch (queued walking) := by
  intro n d h
  obtain ⟨rfl, rfl⟩ := def_walking h
  decide
theorem GeneratorsRun_walking : GeneratorsRun (queued walking) := by constructor <;> decide +kernel
theorem BufferBounded_walking : BufferBounded (queued walking) := by unfold BufferBounded; decide +kernel
theorem StatusWaitsBehind_walking : StatusWaitsBehind (queued walking) := by unfold StatusWaitsBehind; decide +kernel
theorem CountersBounded_walking : CountersBounded (queued walking) := by
  unfold CountersBounded PortCounters.bounded; decide +kernel

theorem witness_SourcesStayDistinct : SourcesDistinct (queued walking) ∧ step (queued walking) = .next walking :=
  ⟨SourcesDistinct_walking, step_walking⟩
theorem witness_ReasonSetsHoldAtMostThirty :
    (SourcesDistinct (queued walking) ∧ InterlocksPlaced (queued walking) ∧ LimitKept (queued walking) ∧
      ConsequencesExact (queued walking)) ∧ step (queued walking) = .next walking :=
  ⟨⟨SourcesDistinct_walking, InterlocksPlaced_walking, LimitKept_walking, ConsequencesExact_walking⟩, step_walking⟩
theorem witness_TracksStayInRange : TracksInRange (queued walking) ∧ step (queued walking) = .next walking :=
  ⟨TracksInRange_walking, step_walking⟩
theorem witness_ChannelsStayInRange : ChannelsInRange (queued walking) ∧ step (queued walking) = .next walking :=
  ⟨ChannelsInRange_walking, step_walking⟩
theorem witness_ReferencesStayGated : GateLaw (queued walking) ∧ step (queued walking) = .next walking :=
  ⟨GateLaw_walking, step_walking⟩

/-- The swing brake's release timer has reached its end. -/
def releasingLate : State :=
  before (.releaseTimerExpiry .swing) (State.reset.setBrake .swing
    { Brake.fresh with state := .releasing, setTimer := none, releaseTimer := some ⟨150, 150⟩ })

/-- A free hoist that wants its brake released, which the end of the walk brake's setting lets it. -/
def waitingHoist : State :=
  let s := withReasons .hoist [] (withBrake .hoist .set State.reset)
  { s with
    channels := { s.channels with hoist := { Channel.fresh with demand := true } }
    pending := [.driveFeedback (List.replicate 33 0#8)] }

theorem witness_BrakeSequencersStayLawful :
    (ReleasesApart (queued walking) ∧ BrakeTimersInState (queued walking) ∧ ReleasesFollowDemand (queued walking) ∧
      EffectsAsCatalogued (queued walking)) ∧ step (queued walking) = .next walking ∧
    ((waitingHoist.brakes.get .hoist).state ≠ .releasing ∧
      (releasingLate.brakes.get .swing).state ≠ .setting ∧
      ∃ t, step releasingLate = .next t ∧ (t.brakes.get .swing).state = .setting) := by
  refine ⟨⟨ReleasesApart_walking, BrakeTimersInState_walking, ReleasesFollowDemand_walking, EffectsAsCatalogued_walking⟩,
    step_walking, by decide, by decide, ?_⟩
  have h : stepped? releasingLate (fun t => decide ((t.brakes.get .swing).state = .setting)) = true := by decide +kernel
  simpa using next_of_stepped? h
theorem witness_WalkReferencesStayBounded :
    WalkReferencesBounded (queued walking) ∧ step (queued walking) = .next walking :=
  ⟨WalkReferencesBounded_walking, step_walking⟩
theorem witness_InterlockReasonsStayMatched :
    (InterlocksMatch (queued walking) ∧ WarningInStep (queued walking) ∧ PluggingMatches (queued walking) ∧
      PreconditionsMatch (queued walking) ∧ (queued walking).walk.selection ≠ .deselected ∧
      (queued walking).walk.gate = .opened) ∧ step (queued walking) = .next walking :=
  ⟨⟨InterlocksMatch_walking, WarningInStep_walking, PluggingMatches_walking, PreconditionsMatch_walking, by decide, rfl⟩,
    step_walking⟩

/-- The walk selected with the bucket's reason standing, and what the bucket and the gate now are. -/
def bucketAt (grounded : Bool) (gate : Gate) : State :=
  let s := State.reset.setWalk { Walk.fresh with selection := .selected, gate := gate }
  matchPrecondition .bucket s |>.setHd { s.hd with grounded := grounded }

/-- R123: the input is met under an open gate, and takes the reason out; under a closed one the reason stays; and an input
that is not met leaves it standing. -/
theorem test_R123_gate :
    let has (t : State) : Bool := hasSource t.records.walk.reasons (.interlock .bucketNotGrounded)
    (has (preconditionChanged .bucket (bucketAt true .opened)), has (preconditionChanged .bucket (bucketAt true .closed)),
      has (preconditionChanged .bucket (bucketAt false .opened))) = (false, true, true) := by decide +kernel
theorem witness_WalkMovesOnlyWarned :
    (WalkWarned (queued walking) ∧ InterlocksMatch (queued walking) ∧ WarningInStep (queued walking) ∧
      GateLaw (queued walking) ∧ (queued walking).channels.walk.r ≠ 0) ∧ step (queued walking) = .next walking :=
  ⟨⟨WalkWarned_walking, InterlocksMatch_walking, WarningInStep_walking, GateLaw_walking, by decide +kernel⟩,
    step_walking⟩
theorem witness_AlarmListAndFirstOutStayExact :
    (ActiveListExact (queued walking) ∧ FirstOutBacked (queued walking)) ∧ step (queued walking) = .next walking :=
  ⟨⟨ActiveListExact_walking, FirstOutBacked_walking⟩, step_walking⟩
theorem witness_ConsequencesStayExact :
    (ConsequencesExact (queued walking) ∧ ConsequenceEffects (queued walking)) ∧ step (queued walking) = .next walking :=
  ⟨⟨ConsequencesExact_walking, ConsequenceEffects_walking⟩, step_walking⟩
theorem witness_HornAndBeaconFollowTheirRequests :
    (HornRequestExact (queued walking) ∧ GrantExact (queued walking) ∧ BeaconExact (queued walking) ∧
      GeneratorsRun (queued walking)) ∧ step (queued walking) = .next walking :=
  ⟨⟨HornRequestExact_walking, GrantExact_walking, BeaconExact_walking, GeneratorsRun_walking⟩, step_walking⟩
theorem witness_LinkBoundsAreKept :
    (BufferBounded (queued walking) ∧ StatusWaitsBehind (queued walking) ∧ CountersBounded (queued walking)) ∧
      step (queued walking) = .next walking :=
  ⟨⟨BufferBounded_walking, StatusWaitsBehind_walking, CountersBounded_walking⟩, step_walking⟩

/-! ### Zone caps, tracking and shaping -/

def twoZones : List Zone := [⟨0, 150, 1000, false⟩, ⟨9999, 1000, 200, false⟩]

theorem zonesHeld_twoZones : ZonesHeld false twoZones where
  count := by decide
  caps := by decide
  starts := by decide
  order := by decide
  first := fun _ => rfl
  window := fun _ => by decide

def phases : PhaseTable :=
  ⟨⟨0, 300, 300⟩, ⟨400, 600, 300⟩, ⟨900, 400, 200⟩, ⟨1500, 800, 200⟩, ⟨2300, 400, 200⟩, ⟨2900, 800, 300⟩⟩

theorem phasesHeld_phases : PhasesHeld phases := ⟨by decide, by decide, by decide⟩

/-- A referenced axis at a position. -/
def trackAt (pos : Nat) : Track := { Track.fresh with referenced := true, pos := pos }

/-- A phase table, with both cams referenced at the ends of their range. -/
def camsReferenced : State :=
  { State.reset with
    walk := { Walk.fresh with table := some phases }
    tracker := { State.reset.tracker with axes := { State.reset.tracker.axes with camL := trackAt 0, camR := trackAt 3599 } } }

theorem WalkTableHeld_cams : WalkTableHeld camsReferenced where
  table := fun t h => by cases h; exact phasesHeld_phases
  left := nofun
  right := nofun
theorem TracksInRange_cams : TracksInRange camsReferenced := by intro a; cases a <;> decide +kernel

theorem witness_ZoneCapsFollowTheTables :
    (ZonesHeld false twoZones ∧ Track.fresh.referenced = false ∧ zoneCapOf false twoZones AxisParams.fresh Track.fresh .neg = 200) ∧
    ((trackAt 9999).referenced = true ∧ (trackAt 9999).pos ≤ 9999 ∧ twoZones[1]? = some ⟨9999, 1000, 200, false⟩ ∧
      ZoneReached false AxisParams.fresh.lookahead (trackAt 9999).pos .neg 9999 (zoneEnd false twoZones 1) 0) ∧
    State.reset.walk.table = none ∧
    (camsReferenced.walk.table = some phases ∧ PhasesHeld phases ∧ camsReferenced.tracker.axes.camL.referenced = true ∧
      camsReferenced.tracker.axes.camR.referenced = true ∧ camsReferenced.tracker.axes.camL.pos ≤ 3599 ∧
      camsReferenced.tracker.axes.camR.pos ≤ 3599) :=
  ⟨⟨zonesHeld_twoZones, rfl, by decide⟩, ⟨rfl, by decide, rfl, .inl ⟨by unfold zoneContains; decide, rfl⟩⟩, rfl,
    ⟨rfl, phasesHeld_phases, rfl, rfl, by decide, by decide⟩⟩

/-- R20: the left cam stands in RAISED with caps 300, the right one in RAISING with caps 800 and 300. -/
theorem test_R20_least : (zoneCap camsReferenced .walk .pos, zoneCap camsReferenced .walk .neg) = (300, 300) := by
  decide +kernel

/-- R19: at payout 99, 20 above a zone of cap 150 that ends at 79, with slope 20, the candidate is 150 + 20 × 20. -/
theorem test_R19_candidate :
    zoneCapOf false [⟨0, 150, 1000, false⟩, ⟨80, 1000, 1000, false⟩]
      { AxisParams.fresh with lookahead := 100, slope := 20 } { Track.fresh with referenced := true, pos := 99 } .pos = 550 := by
  decide

theorem witness_DeltaIsTheSignedDifference :
    (0 < 65536 ∧ 65535 < 65536) ∧ AxisParams.fresh.polarity = .normal ∧
      (rawDelta AxisParams.fresh 0 32767).natAbs ≤ AxisParams.fresh.maxDelta ∧
      AxisParams.fresh.maxDelta < (rawDelta AxisParams.fresh 0 32768).natAbs ∧
      ({ AxisParams.fresh with polarity := .inverted } : AxisParams).polarity = .inverted := by decide

/-- POSITION_SET of an axis at a value. -/
def positionBody (code v : Nat) : List Byte := byteOf code :: le16 v

theorem witness_PositionSetReferencesTheAxis :
    (Takes .station 0x31#8 (positionBody 5 0) (asked .station 0x31#8 (positionBody 5 0) State.reset) ∧ 5 < 256 ∧ 0 < 65536) ∧
      (axisOfCode 0 = some .hoist ∧ Axis.top .hoist < 10000 ∧ axisOfCode 4 = some .camR ∧ Axis.top .camR < 3600) ∧
      (9999 ≤ Axis.top .hoist ∧ (State.reset.brakes.get (Axis.motion .hoist)).state ≠ .set) ∧
      (3599 ≤ Axis.top .camR ∧ ((withBrake .walk .set State.reset).brakes.get (Axis.motion .camR)).state = .set) :=
  ⟨⟨takes_asked _ _ _ _ rfl, by decide, by decide⟩, by decide, by decide, by decide⟩

/-- R35: OUT_OF_RANGE, BUSY and ACCEPTED. -/
theorem test_position_codes :
    answers .positionSet 0x31#8 (positionBody 5 0) State.reset .outOfRange &&
    answers .positionSet 0x31#8 (positionBody 4 3600) (withBrake .walk .set State.reset) .outOfRange &&
    answers .positionSet 0x31#8 (positionBody 0 9999) State.reset .busy &&
    answers .positionSet 0x31#8 (positionBody 4 3599) (withBrake .walk .set State.reset) .accepted = true := by
  decide +kernel

theorem test_position_references :
    got (.positionSet .station (positionBody 3 3599)) (asked .station 0x31#8 (positionBody 3 3599) (withBrake .walk .set State.reset))
      (fun t => decide (t.tracker.axes.camL = { Track.fresh with pos := 3599, base := 3599, referenced := true })) = true := by
  decide +kernel

theorem witness_DeadbandRule :
    (200 ≤ 200 ∧ (-1000 : Int) ≤ -1000 ∧ (-1000 : Int) ≤ 1000 ∧ 200 < (-1000 : Int).natAbs ∧ (-1000 : Int).natAbs = 1000) ∧
      (200 : Int).natAbs ≤ 200 ∧ (0 : Nat) = 0 := by decide

/-- A channel that passes its lever on: one full tap, and rate steps of 200. -/
def straight : Channel :=
  { Channel.fresh with
    params := { ChannelParams.fresh with gain := [⟨false, 0⟩], taps := [⟨false, 0⟩] :: List.replicate 7 [], aUp := 200,
                                         aDown := 200 }
    latched := 1000, armed := true }

theorem witness_SampleRunsTheChain :
    Permit.capped ≠ .tripped ∧ (sampleChannel straight .capped 150 1000 false true).r = 150 ∧
      (sampleChannel straight .tripped 150 1000 false true).r = 0 ∧
      (sampleChannel straight .free 150 1000 false false).r = 0 ∧
      (sampleChannel straight .free 150 1000 false false).demand = true ∧
      ((0 : Int) < 3 * 5 ∧ (3 : Int).natAbs < (5 : Int).natAbs) ∧ ((0 : Int) < -5 * -3 ∧ (-3 : Int).natAbs < (-5 : Int).natAbs) ∧
      (3 : Int) * -5 < 0 := by decide +kernel

/-- R51: 842 at a gain of 4864 units is 999.875, which rounds to 1000; half a unit rounds away from zero. -/
theorem test_R51_rounding :
    RoundedUnits (842 * unitsOf [⟨false, 0⟩, ⟨false, 2⟩, ⟨true, 4⟩]) 1000 ∧ RoundedUnits (-2048) (-1) ∧ ¬RoundedUnits 2048 0 := by
  unfold RoundedUnits; decide
/-- R57: growth by A_UP, shrinking by A_DOWN, and a reversal that stops at 0. -/
theorem test_R57_steps :
    (rateLimit 3 50 10 20, rateLimit (-3) (-50) 10 20, rateLimit 50 3 10 20, rateLimit 15 (-50) 10 20, rateLimit 0 (-4) 10 20) =
      (13, -13, 30, 0, -4) := by decide

/-- R51: a gain of 1 + 1 on 600 saturates at 1000 and is counted once; the peak takes the magnitude. -/
theorem test_R51_saturation :
    let ch := { straight with latched := -600, params := { straight.params with gain := [⟨false, 0⟩, ⟨false, 1⟩] },
                              history := List.replicate 8 1000 }
    let ch2 := { ch with params := { ch.params with taps := [⟨false, 0⟩] :: [⟨false, 0⟩] :: List.replicate 6 [] } }
    (let n := sampleChannel ch .free 1000 1000 false true; (n.y, n.sats, n.peak)) = (-900, 0, 900) ∧
      (sampleChannel { ch2 with history := List.replicate 8 (-900) } .free 1000 1000 false true).sats = 1 := by
  decide +kernel

/-- The part with a channel's sample due. -/
def sampleDue (m : Motion) (s : State) : State := s.setChannel m { s.channels.get m with sampleTimer := ⟨1, 1⟩ }

/-- The cams and the swing in zones of their tables, with the walk channel's sample due. -/
def walkSampled : State := sampleDue .walk { camsReferenced with zones := ⟨[], [], [⟨3599, 1000, 1000, true⟩]⟩ }

theorem zonesHeld_one : ZonesHeld true [⟨3599, 1000, 1000, true⟩] where
  count := by decide
  caps := by decide
  starts := by decide
  order := by decide
  first := nofun
  window := nofun

/-- The walk in motion over its table, released and free, with its sample due. -/
def movingSample : State :=
  sampleDue .walk { camsReferenced with
    records := walking.records, channels := walking.channels, brakes := walking.brakes,
    walk := { camsReferenced.walk with selection := .selected, warning := .complete } }

theorem witness_ChannelSampleTakesOneSample :
    ((sampleDue .hoist State.reset).held = false ∧
      ((sampleDue .hoist State.reset).channels.get .hoist).sampleTimer.due = true) ∧
    (((sampleDue .swing State.reset).channels.get .swing).sampleTimer.due = true ∧
      EffectsAsCatalogued (sampleDue .swing State.reset)) ∧
    ((walkSampled.channels.get .walk).sampleTimer.due = true ∧ WalkTableHeld walkSampled ∧ TracksInRange walkSampled ∧
      ZonesHeld true walkSampled.zones.swing ∧ walkSampled.tracker.axes.swing.pos ≤ 3599) ∧
    (movingSample.held = false ∧ movingSample.channels.walk.sampleTimer.due = true ∧
      let u : State := { takePhases movingSample with freeIx := movingSample.freeIx + 1 }
      let caps : Record := { u.records.walk with zonePos := zoneCap movingSample .walk .pos, zoneNeg := zoneCap movingSample .walk .neg }
      (sampleChannel u.channels.walk (u.permit .walk) (effectiveCap caps .pos) (effectiveCap caps .neg)
        movingSample.links.cab.lost (decide (u.brakes.walk.state = .released))).r ≠ 0) :=
  ⟨by decide +kernel, ⟨by decide +kernel, EffectsAsCatalogued_reset _ rfl⟩,
    ⟨by decide +kernel, ⟨WalkTableHeld_cams.table, nofun, nofun⟩, fun a => by cases a <;> decide +kernel, zonesHeld_one,
      by decide +kernel⟩, by decide +kernel⟩

/-- A free hoist with a zone table, a lever of 1000 and its sample due. -/
def liftedHoist (st : BrakeState) (ch : Channel) : State :=
  sampleDue .hoist { withReasons .hoist [] (withBrake .walk .set (withBrake .hoist st State.reset)) with
    zones := ⟨twoZones, [], []⟩, channels := ⟨ch, Channel.fresh, Channel.fresh, Channel.fresh⟩ }

/-- R69, R71: a fall of demand ends a release. -/
theorem test_demand_ends_release :
    got (.channelSample .hoist) (liftedHoist .releasing { straight with latched := 0, demand := true })
      (fun t => decide (t.brakes.hoist = { Brake.fresh with state := .setting, setTimer := some ⟨0, 150⟩ })) = true := by
  decide +kernel

/-- R111, R112: cams at 0 and 3599 stand in RAISED and RAISING, 1 apart, and the right one lags. -/
theorem test_R112_difference :
    let w := foundWalk camsReferenced
    (w.left.phase, w.right.phase, w.diff, machinePhase w) = (some .raised, some .raising, some 1, some .raising) := by
  decide +kernel

/-- R115: the synchronism error holds its value between its two limits. -/
theorem test_R115_hysteresis :
    let p := MachineParams.fresh
    (syncAfter p (some (p.syncFault + 1 : Nat)) false, syncAfter p (some (p.syncFault : Nat)) false,
      syncAfter p (some (p.syncFault : Nat)) true, syncAfter p (some (p.syncTol : Nat)) true) = (true, false, true, false) := by
  decide +kernel

/-- R15, R69: with a zone table, a free hoist at a lever of 1000 demands, and its brake leaves SET. -/
theorem test_sample_begins_release :
    got (.channelSample .hoist) (liftedHoist .set straight)
      (fun t => decide ((t.brakes.get .hoist).state = .releasing) && decide (t.channels.hoist.c = 150) &&
        decide (t.channels.hoist.r = 0) && decide (t.records.hoist.zoneNeg = 200) &&
        hasSource t.records.walk.reasons (.interlock .brakesNotSet)) = true := by decide +kernel

/-! ### Brakes -/

/-- A motion in a brake state, at rest. -/
def resting (st : BrakeState) : State := withBrake .drag st State.reset

/-- The same with T_HOLD 0. -/
def atOnce (st : BrakeState) : State :=
  { resting st with machine := { MachineParams.fresh with brakes := .replicate ⟨150, 150, 0, 20⟩ } }

/-- Its hold timer runs. -/
def counting : State := State.reset.setBrake .drag { standing .released with holdTimer := some ⟨199, 200⟩ }

theorem witness_BrakeArrivalsMoveTheSequencer :
    ((resting .set).brakes.get .drag).state = .set ∧ ((resting .setting).brakes.get .drag).state = .setting ∧
      ((resting .releasing).brakes.get .drag).state = .releasing ∧
      (((resting .released).brakes.get .drag).state = .released ∧ ((resting .released).channels.get .drag).r = 0 ∧
        ((resting .released).channels.get .drag).demand = false ∧
        (limitInt (-1000) 1000 20).natAbs ≤ ((resting .released).machine.brakes.get .drag).vRest ∧
        ¬(limitInt (-1000) 1000 21).natAbs ≤ ((resting .released).machine.brakes.get .drag).vRest ∧
        ((resting .released).machine.brakes.get .drag).tHold ≠ 0 ∧ ((resting .released).brakes.get .drag).holdTimer = none) ∧
      (((atOnce .releasing).brakes.get .drag).state = .releasing ∧ ((atOnce .releasing).machine.brakes.get .drag).tHold = 0 ∧
        ((atOnce .releasing).channels.get .drag).r = 0 ∧ ((atOnce .releasing).channels.get .drag).demand = false) ∧
      (((atOnce .released).brakes.get .drag).state = .released ∧ ((atOnce .released).machine.brakes.get .drag).tHold = 0 ∧
        ((atOnce .released).channels.get .drag).r = 0 ∧ ((atOnce .released).brakes.get .drag).holdTimer = none) ∧
      ((counting.brakes.get .drag).state = .released ∧ (counting.brakes.get .drag).holdTimer ≠ none ∧
        (counting.channels.get .drag).r = 0) := by decide +kernel

/-- R72: with T_HOLD 0 a release confirmed at rest ends at once. -/
theorem test_T_HOLD_0 :
    ((brakeArrival .drag true 0 (atOnce .releasing)).brakes.get .drag).state = .setting ∧
      ((brakeArrival .drag true 0 (atOnce .released)).brakes.get .drag).state = .setting := by decide +kernel
/-- R71, R72: the confirmation of a release at rest starts the hold timer toward T_HOLD. -/
theorem test_release_confirmed :
    let t := brakeArrival .drag true 20 (resting .releasing)
    ((t.brakes.get .drag).state, (t.brakes.get .drag).holdTimer) = (.released, some ⟨0, 200⟩) := by decide +kernel

/-- A brake timer at its limit. -/
def timerAt (st : BrakeState) (f : Brake → Brake) : State :=
  State.reset.setBrake .swing (f { (Brake.fresh) with state := st, setTimer := none })

theorem witness_BrakeTimerExpiriesAct :
    let a := timerAt .releasing (fun b => { b with releaseTimer := some ⟨150, 150⟩ })
    let b := timerAt .released (fun b => { b with holdTimer := some ⟨200, 200⟩ })
    let c := timerAt .setting (fun b => { b with setTimer := some ⟨150, 150⟩ })
    (a.held = false ∧ (a.brakes.get .swing).state = .releasing ∧ (a.brakes.get .swing).releaseTimer = some ⟨150, 150⟩) ∧
      (b.held = false ∧ (b.brakes.get .swing).state = .released ∧ (b.brakes.get .swing).holdTimer = some ⟨200, 200⟩) ∧
      (c.held = false ∧ (c.brakes.get .swing).state = .setting ∧ (c.brakes.get .swing).setTimer = some ⟨150, 150⟩) := by
  decide +kernel

theorem test_release_fails :
    got (.releaseTimerExpiry .swing) (timerAt .releasing (fun b => { b with releaseTimer := some ⟨150, 150⟩ }))
      (fun t => (t.brakes.get .swing).releaseFail && decide ((t.brakes.get .swing).state = .setting) &&
        t.alarms.internals.getLsbD 4) = true := by decide +kernel
theorem test_release_not_due :
    got (.releaseTimerExpiry .swing) (timerAt .releasing (fun b => { b with releaseTimer := some ⟨149, 150⟩ }))
      (fun t => decide ((t.brakes.get .swing).state = .releasing)) = true := by decide +kernel
theorem test_hold_expires :
    got (.holdTimerExpiry .walk) { walking with
        brakes := { walking.brakes with walk := { walking.brakes.walk with holdTimer := some ⟨200, 200⟩ } } }
      (fun t => decide (t.channels.walk.r = 0) && decide (t.walk.walkL = 0) && decide (t.brakes.walk.state = .setting)) =
        true := by decide +kernel
theorem test_set_fails :
    got (.setTimerExpiry .swing) (timerAt .setting (fun b => { b with setTimer := some ⟨150, 150⟩ }))
      (fun t => (t.brakes.get .swing).setFail && t.alarms.internals.getLsbD 8) = true := by decide +kernel

/-! ### The cyclic frames -/

/-- The part with a last walk-select bit and a selection state. -/
def switched (last : Bool) (x : Selection) : State :=
  State.reset.setWalk { Walk.fresh with lastSelect := some last, selection := x }

theorem witness_CabCommandReachesItsConsumers :
    (State.reset.held = false ∧ (List.replicate 12 0xFF#8).length = cabCommandLength ∧
      (List.replicate 13 0#8).length ≠ cabCommandLength ∧ State.reset.walk.lastSelect ≠ some (!(cabFrameOf (List.replicate 12 0xFF#8)).walkSelect)) ∧
    ((switched false .deselected).walk.lastSelect = some false ∧ (cabFrameOf (List.replicate 12 0xFF#8)).walkSelect = true ∧
      (switched false .deselected).walk.selection = .deselected) ∧
    ((switched true .selected).walk.lastSelect = some true ∧ (cabFrameOf (List.replicate 12 0#8)).walkSelect = false ∧
      (switched true .selected).walk.selection = .selected ∧ (switched true .selected).brakes.walk.state ≠ .set ∧
      (switched true .deselected).walk.selection ≠ .selected) := by decide

/-- R119, R120: the edges of the walk select bit. -/
theorem test_R120_edges :
    let up (s : State) := (takeWalkSelect true s).walk.selection
    let down (s : State) := (takeWalkSelect false s).walk.selection
    let raised : Cam := { Cam.fresh with phase := some .raised }
    let home (s : State) : State := withBrake .walk .set (s.setWalk { s.walk with left := raised, right := raised })
    (up State.reset, up (switched false .deselectPending), up (switched true .deselected)) = (.deselected, .selected, .deselected) ∧
      (down (switched true .selected), down (home (switched true .selected)), down (home (switched false .selected))) =
        (.deselectPending, .deselected, .selected) := by decide +kernel

/-- The settle step of CHECK, from the given brakes. -/
def checking (seen : Bool) : State :=
  State.reset.setCtl { State.reset.ctl with mode := .check, check := .checking, settleTimer := some ⟨200, 200⟩, feedbackSeen := seen }

theorem GateLaw_checking : GateLaw (checking false) where
  timers := by unfold ModeTimersInMode; decide +kernel
  notRunning := by intro m; cases m <;> decide +kernel
  effects := EffectsAsCatalogued_reset _ rfl
  gate := by intro m; cases m <;> decide +kernel
  brakes := by intro m; cases m <;> decide +kernel

theorem witness_DriveFeedbackReachesItsConsumers :
    (State.reset.held = false ∧ (List.replicate 33 0xFF#8).length = driveFeedbackLength ∧
      (List.replicate 32 0#8).length ≠ driveFeedbackLength) ∧
    (TripsLatch (queued walking) ∧ (queued walking).brakes.walk.state = .released ∧ (queued walking).permit .walk ≠ .tripped ∧
      (queued walking).brakes.hoist.state = .set ∧ (queued walking).channels.hoist.demand = false ∧
      State.reset.brakes.hoist.state = .setting ∧ (driveFrameOf (List.replicate 33 0xFF#8)).released.hoist = true ∧
      (driveFrameOf (List.replicate 33 0#8)).released.hoist = false ∧ State.reset.channels.hoist.demand = false ∧
      (liftedHoist .releasing { straight with demand := true }).brakes.hoist.state = .releasing ∧
      (liftedHoist .releasing { straight with demand := true }).channels.hoist.demand = true) ∧
    (State.reset.ctl.mode ≠ .check ∧ WalkTableHeld camsReferenced ∧ TracksInRange camsReferenced ∧
      EffectsAsCatalogued (checking false)) ∧
    ((checking false).ctl.mode = .check ∧ GateLaw (checking false) ∧
      (∀ m, ((checking false).brakes.get m).state = .set ∨ (driveFrameOf (List.replicate 33 0#8)).released.get m = false) ∧
      ¬∀ m, ((checking false).brakes.get m).state = .set ∨
        (driveFrameOf (List.replicate 33 0xFF#8)).released.get m = false) := by
  refine ⟨by decide, ⟨TripsLatch_walking, by decide +kernel⟩,
    ⟨by decide, WalkTableHeld_cams, TracksInRange_cams, GateLaw_checking.effects⟩, rfl, GateLaw_checking,
    fun m => by cases m <;> decide +kernel, fun h => ?_⟩
  revert h
  have : ¬(((checking false).brakes.get .hoist).state = .set ∨
      (driveFrameOf (List.replicate 33 0xFF#8)).released.get .hoist = false) := by decide +kernel
  exact fun h => this (h .hoist)

theorem test_cab_format_counted :
    got (.cabCommand (List.replicate 13 0#8)) State.reset (fun t => decide (t.links.cab.counters.format = 1) &&
      decide (t.links.cab.fresh = State.reset.links.cab.fresh)) = true := by decide +kernel
theorem test_drive_format_counted :
    got (.driveFeedback []) State.reset (fun t => decide (t.links.drive.counters.format = 1)) = true := by decide +kernel

/-- R34: a rising edge of a reference bit, with counts based, references the axis at its mark. -/
theorem test_R34_mark :
    let p := { AxisParams.fresh with markPos := 600 }
    (let t := markStep p true true (countStep .hoist p true 100 Track.fresh); (t.pos, t.referenced, t.lastRaw, t.acc)) =
        (600, true, 100, 0) ∧
      (markStep p false true (countStep .hoist p false 100 Track.fresh)).referenced = false := by decide

/-- R32: an accumulator of -7 at a ratio of 1 over 2 is floored to -4. -/
theorem test_R32_floor : ropeUnclamped { AxisParams.fresh with v := 2 } 10 (-7) = 6 := by decide

/-! ### Walking -/

theorem witness_WalkReferenceIsShared :
    (500 : Int) ≠ 0 ∧ MachineParams.fresh.syncTol < (31 : Int).natAbs ∧ (30 : Int).natAbs ≤ MachineParams.fresh.syncTol ∧
      ((0 : Int) < 500 ∧ (0 : Int) < 31) ∧ ((-500 : Int) < 0 ∧ (-31 : Int) < 0) := by decide

/-- R114: at r 500 and D 31 the left side leads by 1 over the tolerance of 30, and is trimmed by 10; a great lead is held
still; the other side leads with the signs apart. -/
theorem test_R114_trim :
    splitWalk MachineParams.fresh 500 (some 31) = (490, 500) ∧ splitWalk MachineParams.fresh 500 (some 30) = (500, 500) ∧
      splitWalk MachineParams.fresh (-500) (some 1000) = (-500, 0) ∧ splitWalk MachineParams.fresh 500 none = (500, 500) := by
  decide

/-- Both cams have completed a crossing. -/
def stepped (p : Pending) (steps : Int) : Walk :=
  { Walk.fresh with left := { Cam.fresh with pending := p }, right := { Cam.fresh with pending := p }, steps := steps }

theorem witness_StepCountChangesByOne :
    ((stepped .forward 32767).left.pending = .forward ∧ (stepped .forward 32767).right.pending = .forward) ∧
      ((stepped .reverse (-32768)).left.pending = .reverse ∧ (stepped .reverse (-32768)).right.pending = .reverse) ∧
      (stepped .none 0).left.pending = .none ∧
      (WalkTableHeld (queued camsReferenced) ∧ step (queued camsReferenced) = .next camsReferenced) ∧
      ((List.replicate 33 0#8).length = driveFeedbackLength ∧ WalkTableHeld camsReferenced ∧ TracksInRange camsReferenced) ∧
      (-32768 ≤ State.reset.walk.steps ∧ State.reset.walk.steps ≤ 32767 ∧
        exec .lineResetRelease State.reset = .next State.reset) := 
  ⟨by decide, by decide, by decide, ⟨⟨WalkTableHeld_cams.table, WalkTableHeld_cams.left, WalkTableHeld_cams.right⟩,
    step_queued _ rfl rfl⟩, ⟨by decide, WalkTableHeld_cams, TracksInRange_cams⟩, by decide, by decide, rfl⟩

/-- R116: with each cam's last progress and phase, a crossing of the boundary before RAISED and one back. -/
theorem test_R116_crossings :
    (crossing phases (some 3599) (some 1) (some .raised), crossing phases (some 0) (some (-1)) (some .raising),
      crossing phases (some 3599) none (some .raised), crossing phases (some 0) (some 5) (some .raised)) =
      (.forward, .reverse, .none, .none) ∧
    (addPending .reverse .forward, addPending .forward .reverse, addPending .forward .forward) = (.none, .none, .forward) := by
  decide

theorem test_R117_saturates :
    ((stepTest (stepped .forward 32767)).steps, (stepTest (stepped .reverse (-32768))).steps,
      (stepTest (stepped .forward 7)).steps, (stepTest (stepped .forward 7)).left.pending) = (32767, -32768, 8, .none) := by
  decide

/-- The walk in motion with a timer of its own at its limit. -/
def stalling : State := walking.setWalk { walking.walk with stallTimer := some ⟨300, 300⟩ }
def warning : State :=
  State.reset.setWalk { Walk.fresh with selection := .selected, warning := .sounding, warnTimer := some ⟨500, 500⟩,
                                        hornRequest := true }
def lapsing : State := walking.setWalk { walking.walk with validTimer := some ⟨6000, 6000⟩ }

/-- The walk in motion over its table, the right cam lagging by 1, with the given stall timer. -/
def watched (timer : Option Timer) : State :=
  { camsReferenced with
    channels := ⟨Channel.fresh, Channel.fresh, Channel.fresh, walkingChannel⟩
    brakes := ⟨standing .set, standing .set, standing .set, standing .released⟩
    walk := { camsReferenced.walk with
      left := { Cam.fresh with phase := some .raised }, right := { Cam.fresh with phase := some .raising },
      diff := some 1, stallTimer := timer, stallBase := 3599 } }

/-- Any event that closes with the watch active and its timer stopped starts it: a sample of the hoist. -/
def watchStarts : State := before (.channelSample .hoist) (sampleDue .hoist (watched none))

theorem witness_StallWatchRunsAndReports :
    ((StallWatched (queued walking) ∧ (queued walking).walk.stallBase ≤ 3599) ∧ step (queued walking) = .next walking) ∧
    (watchStarts.walk.stallTimer = none ∧ ∃ t, step watchStarts = .next t ∧ t.walk.stallTimer = some ⟨0, 300⟩) ∧
    ((sampleDue .walk (watched none)).held = false ∧ (sampleDue .walk (watched none)).channels.walk.sampleTimer.due = true ∧
      WalkTableHeld (sampleDue .walk (watched none)) ∧ TracksInRange (sampleDue .walk (watched none)) ∧
      (sampleDue .walk (watched none)).walk.stallTimer = none) ∧
    (WalkTableHeld (watched (some ⟨7, 300⟩)) ∧ TracksInRange (watched (some ⟨7, 300⟩)) ∧ StallWatched (watched (some ⟨7, 300⟩)) ∧
      (watched (some ⟨7, 300⟩)).walk.stallBase ≤ 3599 ∧ (watched (some ⟨7, 300⟩)).walk.stallTimer = some ⟨7, 300⟩) ∧
    stalling.held = false ∧ stalling.walk.stallTimer = some ⟨300, 300⟩ ∧ stalling.channels.walk.r ≠ 0 ∧
      ∀ (n : Fin 64) (d : AlarmDef), stalling.alarms.defs[n] = some d → d.cls ≠ .trip := by
  have started : stepped? watchStarts (fun t => decide (t.walk.stallTimer = some ⟨0, 300⟩)) = true := by decide +kernel
  refine ⟨⟨⟨StallWatched_walking, by decide⟩, step_walking⟩, ⟨rfl, by simpa using next_of_stepped? started⟩,
    ⟨rfl, by decide +kernel, ⟨WalkTableHeld_cams.table, nofun, nofun⟩, fun a => by cases a <;> decide +kernel, rfl⟩,
    ⟨⟨WalkTableHeld_cams.table, nofun, nofun⟩, fun a => by cases a <;> decide +kernel,
      by unfold StallWatched; decide +kernel, by decide, rfl⟩,
    rfl, rfl, by decide +kernel, fun n d h => ?_⟩
  have hd : ∀ n : Fin 64, stalling.alarms.defs[n] = none ∨ stalling.alarms.defs[n] = some advisory := by decide +kernel
  rcases hd n with h0 | h0 <;> rw [h0] at h <;> cases h
  decide

/-- Walk selected and warned at rest with both cams raised: any closing event starts the validity timer. -/
def validStarts : State :=
  let raised : Cam := { Cam.fresh with phase := some .raised }
  before (.channelSample .hoist) (sampleDue .hoist { walking with
    channels := .replicate Channel.fresh, walk := { walking.walk with left := raised, right := raised } })

theorem witness_WarningTimersActOnTheWarning :
    ((WarningNeedsGrant (queued walking) ∧ WarningInStep (queued walking) ∧ GrantExact (queued walking) ∧
      ValidityTimed (queued walking)) ∧ step (queued walking) = .next walking) ∧
    (lapsing.walk.warnTimer = none ∧
      ∃ t, step (before .validityTimerExpiry lapsing) = .next t ∧ t.walk.warnTimer = some ⟨0, 500⟩) ∧
    (validStarts.walk.validTimer = none ∧ ∃ t, step validStarts = .next t ∧ t.walk.validTimer = some ⟨0, 6000⟩) ∧
    (warning.held = false ∧ warning.walk.warnTimer = some ⟨500, 500⟩) ∧
      (lapsing.held = false ∧ lapsing.walk.validTimer = some ⟨6000, 6000⟩) := by
  have warned : stepped? (before .validityTimerExpiry lapsing) (fun t => decide (t.walk.warnTimer = some ⟨0, 500⟩)) = true := by
    decide +kernel
  have valid : stepped? validStarts (fun t => decide (t.walk.validTimer = some ⟨0, 6000⟩)) = true := by decide +kernel
  exact ⟨⟨⟨WarningNeedsGrant_walking, WarningInStep_walking, GrantExact_walking, ValidityTimed_walking⟩, step_walking⟩,
    ⟨rfl, by simpa using next_of_stepped? warned⟩, ⟨rfl, by simpa using next_of_stepped? valid⟩, ⟨rfl, rfl⟩, rfl, rfl⟩

/-- R125: r has become non-zero with a synchronism error that a TRIP alarm without delay is on. The alarm zeroes r in the
same event; the validity timer has stopped in it, and starts from 0. -/
theorem test_R125_restart :
    let raised : Cam := { Cam.fresh with phase := some .raised }
    let alarm : AlarmDef := { stopAlarm 11 with cls := .trip, delayOn := 0, motions := ⟨false, false, false, true⟩ }
    let t := afterEvent (withAlarm 0 alarm .normal (walking.setWalk { walking.walk with
      sync := true, left := raised, right := raised, validTimer := some ⟨5, 6000⟩ }))
    (t.channels.walk.r, (t.alarms.runs[0]).state, t.walk.validTimer) = (0, .raised, some ⟨0, 6000⟩) := by decide +kernel

theorem test_stall_reported :
    got .stallTimerExpiry stalling (fun t => t.walk.stall && t.alarms.internals.getLsbD 12) = true := by decide +kernel
theorem test_warning_completes :
    got .warningTimerExpiry warning (fun t => decide (t.walk.warning = .complete) && !t.walk.hornRequest &&
      !hasSource t.records.walk.reasons (.interlock .warningIncomplete)) = true := by decide +kernel
theorem test_warning_lapses :
    got .validityTimerExpiry lapsing (fun t => decide (t.walk.warning = .sounding) &&
      decide (t.ann.grant = some .walk) && decide (t.walk.warnTimer = some ⟨0, 500⟩) &&
      decide (t.permit .walk = .stopped)) = true := by decide +kernel

/-! ### Alarms -/

/-- A latching STOP alarm in slot 63, in a state. -/
def alarmed (st : AlarmState) : State := withAlarm 63 (stopAlarm 19) st State.reset

/-- Its delay timer has reached its end. -/
def delaying : State :=
  setRun 63 { AlarmRun.fresh with raw := true, delay := some ⟨10, 10⟩ } (alarmed .normal)

theorem settled_of_internals (s : State) (h : s.alarms.internals = 0#20) (hc : ownedConditions s = List.replicate 20 false)
    (hs : s.walk.stall = false) : ConditionsSettled s := by
  refine ⟨fun c => ?_, hs⟩
  rw [h, hc]
  revert c
  decide

theorem witness_ConditionChangesMoveTheAlarm :
    ((ConditionsHandedOn (queued walking) ∧ ConditionsFollowSources (queued walking) ∧
      StatesFollowConditions (queued walking)) ∧ step (queued walking) = .next walking) ∧
    (advisory.source = .driveInput 31 ∧ (stopAlarm 19).source = .internal 19 ∧
      ({ advisory with source := .cabInput 15 } : AlarmDef).source = .cabInput 15) ∧
    (advisory.delayOn = 0 ∧ 0 < (stopAlarm 19).delayOn ∧ (State.reset.alarms.runs[(63 : Fin 64)]).filtered = false ∧
      ((setFiltered 63 advisory true State.reset).alarms.runs[(63 : Fin 64)]).filtered = true) ∧
    (63 : Fin 64) ≠ 0 ∧ delaying.held = false ∧ delaying.alarms.defs[(63 : Fin 64)] = some (stopAlarm 19) ∧
      (delaying.alarms.runs[(63 : Fin 64)]).delay = some ⟨10, 10⟩ ∧ ConditionsSettled delaying :=
  ⟨⟨⟨ConditionsHandedOn_walking, ConditionsFollowSources_walking, StatesFollowConditions_walking⟩, step_walking⟩,
    ⟨rfl, rfl, rfl⟩, ⟨rfl, by decide, by decide +kernel, by decide +kernel⟩,
    by decide, rfl, by decide +kernel, by decide +kernel, settled_of_internals _ rfl (by decide +kernel) rfl⟩

/-- R133: a drive input that has not been received gives false, whatever the polarity. -/
theorem test_R133_not_received :
    rawCondition AlarmProc.fresh { advisory with polarity := .activeFalse } = false ∧
      rawCondition { AlarmProc.fresh with driveInputs := some 0#32 } { advisory with polarity := .activeFalse } = true := by
  decide +kernel

/-- R135, R139, R141, R145: a raise counts, marks, sounds, lists, and places the consequence. -/
theorem test_alarm_raised :
    got (.alarmDelayExpiry 63) delaying (fun t => decide ((t.alarms.runs[63]).state = .raised) &&
      decide ((t.alarms.runs[63]).count = 1) && decide (t.alarms.firstOut = some 63) && t.alarms.hornRequest &&
      t.records.hoist.reasons.contains ⟨.alarm 63, .stop⟩ && decide (t.ann.grant = some .alarm)) = true := by decide +kernel

/-- A frame of the cab with its acknowledge, reset and silence bits pressed, and the part before it, with its inputs. -/
def pressed (ack reset silence : Bool) : List Byte :=
  List.replicate 8 0#8 ++ [byteOf (4 * silence.toNat + 8 * ack.toNat + 16 * reset.toNat), 0#8, 0#8, 0#8]
def unpressed (st : AlarmState) : State :=
  (alarmed st).setAlarms { (alarmed st).alarms with cabInputs := some 0#16, lastButtons := some ⟨false, false, false⟩ }

theorem witness_AcknowledgeAndResetMoveTheNamedAlarms :
    (((unpressed .returned).held = false ∧ (pressed true false true).length = cabCommandLength ∧
      (unpressed .returned).links.cab.lost = false ∧
      (unpressed .returned).alarms.cabInputs = some (cabFrameOf (pressed true false true)).inputs ∧
      (∀ n : Fin 64, (unpressed .returned).alarms.defs[n] = none → ((unpressed .returned).alarms.runs[n]).state = .normal) ∧
      (cabFrameOf (pressed true false true)).ack = true ∧ (cabFrameOf (pressed true false true)).silence = true ∧
      (cabFrameOf (pressed true true false)).ack = true ∧ (cabFrameOf (pressed true true false)).reset = true ∧
      (unpressed .returned).alarms.lastButtons.map Buttons.reset = some false ∧
      (unpressed .returned).alarms.lastButtons.map Buttons.ack = some false) ∧ ConditionsSettled (unpressed .returned)) ∧
    (Takes .broadcast 0x2A#8 (bytes [64]) (asked .broadcast 0x2A#8 (bytes [64]) State.reset) ∧
      Takes .station 0x2B#8 (bytes [254]) (asked .station 0x2B#8 (bytes [254]) State.reset)) ∧
    (∀ n : Fin 64, (alarmed .returned).alarms.defs[n] = none → ((alarmed .returned).alarms.runs[n]).state = .normal) ∧
    (Takes .station 0x2A#8 (bytes [63]) (asked .station 0x2A#8 (bytes [63]) (alarmed .returned)) ∧
      unacknowledged (alarmed .returned).alarms 63 = true ∧ ConditionsSettled (alarmed .returned)) ∧
    (Takes .station 0x2A#8 (bytes [255]) (asked .station 0x2A#8 (bytes [255]) State.reset) ∧
      ∀ n, unacknowledged State.reset.alarms n = false) ∧
    (Takes .station 0x2B#8 (bytes [255]) (asked .station 0x2B#8 (bytes [255]) (alarmed .latched)) ∧
      ((alarmed .latched).alarms.runs[(63 : Fin 64)]).state = .latched) ∧
    (Takes .station 0x2B#8 (bytes [63]) (asked .station 0x2B#8 (bytes [63]) (alarmed .held)) ∧
      ((alarmed .held).alarms.runs[(63 : Fin 64)]).state ≠ .latched) :=
  ⟨⟨by decide +kernel, settled_of_internals _ rfl (by decide +kernel) rfl⟩,
    ⟨takes_asked _ _ _ _ rfl, takes_asked _ _ _ _ rfl⟩, by decide +kernel,
    ⟨takes_asked _ _ _ _ rfl, by decide +kernel, settled_of_internals _ rfl (by decide +kernel) rfl⟩,
    ⟨takes_asked _ _ _ _ rfl, by decide +kernel⟩, ⟨takes_asked _ _ _ _ rfl, by decide +kernel⟩,
    ⟨takes_asked _ _ _ _ rfl, by decide +kernel⟩⟩

/-- R136: edges against the last bits; none where they are absent. -/
theorem test_R136_edges :
    risingEdges none ⟨true, true, true⟩ = [] ∧ risingEdges (some ⟨false, true, false⟩) ⟨true, true, true⟩ = [.ack, .silence] ∧
      (pressButton .silence (alarmed .raised)).alarms.silence = true := by decide +kernel

/-- R137, R138: a RETURNED latching alarm is LATCHED by an acknowledgement, and NORMAL after a reset. -/
theorem test_alarm_acknowledged :
    got (.alarmAck .station (bytes [63])) (asked .station 0x2A#8 (bytes [63]) (alarmed .returned))
      (fun t => decide ((t.alarms.runs[63]).state = .latched) && decide (codeOf t = some .accepted)) = true := by
  decide +kernel
theorem test_alarm_reset :
    got (.alarmReset .station (bytes [255])) (asked .station 0x2B#8 (bytes [255]) (alarmed .latched))
      (fun t => decide ((t.alarms.runs[63]).state = .normal) && t.alarms.active.isEmpty) &&
    answers .alarmReset 0x2B#8 (bytes [63]) (alarmed .held) .noChange = true := by decide +kernel

def shelveBody (code seconds : Nat) : List Byte := byteOf code :: le16 seconds

/-- An advisory alarm in slot 0, RAISED. -/
def advised : State := withAlarm 0 advisory .raised State.reset
/-- Its shelving ends at the present machine time, 0. -/
def shelved : State := setRun 0 { AlarmRun.fresh with state := .raised, shelvedUntil := some 0#32 } advised

theorem witness_ShelvingBeginsAndEnds :
    (Takes .station 0x2C#8 (shelveBody 64 1) (asked .station 0x2C#8 (shelveBody 64 1) State.reset) ∧
      Takes .station 0x2C#8 (shelveBody 0 3601) (asked .station 0x2C#8 (shelveBody 0 3601) advised) ∧
      Takes .station 0x2C#8 (shelveBody 0 0) (asked .station 0x2C#8 (shelveBody 0 0) advised)) ∧
    (Takes .station 0x2C#8 (shelveBody 63 1) (asked .station 0x2C#8 (shelveBody 63 1) (alarmed .raised)) ∧
      (alarmed .raised).alarms.defs[(63 : Fin 64)] = some (stopAlarm 19)) ∧
    (Takes .station 0x2C#8 (shelveBody 0 3600) (asked .station 0x2C#8 (shelveBody 0 3600) advised) ∧
      advised.alarms.defs[(0 : Fin 64)] = some advisory ∧ advisory.cls ≠ .stop ∧ advisory.cls ≠ .trip) ∧
    (Takes .station 0x2D#8 (bytes [64]) (asked .station 0x2D#8 (bytes [64]) State.reset) ∧
      Takes .station 0x2D#8 (bytes [63]) (asked .station 0x2D#8 (bytes [63]) State.reset) ∧
      (State.reset.alarms.runs[(63 : Fin 64)]).shelvedUntil = none ∧
      Takes .station 0x2D#8 (bytes [0]) (asked .station 0x2D#8 (bytes [0]) shelved) ∧
      (shelved.alarms.runs[(0 : Fin 64)]).shelvedUntil ≠ none) ∧
    (shelved.held = false ∧ (shelved.alarms.runs[(0 : Fin 64)]).shelvedUntil = some shelved.ctl.time) :=
  ⟨⟨takes_asked _ _ _ _ rfl, takes_asked _ _ _ _ rfl, takes_asked _ _ _ _ rfl⟩,
    ⟨takes_asked _ _ _ _ rfl, by decide +kernel⟩, ⟨takes_asked _ _ _ _ rfl, by decide +kernel, by decide, by decide⟩,
    ⟨takes_asked _ _ _ _ rfl, takes_asked _ _ _ _ rfl, by decide +kernel, takes_asked _ _ _ _ rfl, by decide +kernel⟩,
    rfl, by decide +kernel⟩

theorem test_shelve :
    got (.alarmShelve .station (shelveBody 0 3600)) (asked .station 0x2C#8 (shelveBody 0 3600) advised)
      (fun t => decide ((t.alarms.runs[0]).shelvedUntil = some 360000#32)) &&
    answers .alarmShelve 0x2C#8 (shelveBody 0 3601) advised .outOfRange &&
    answers .alarmShelve 0x2C#8 (shelveBody 63 1) (alarmed .raised) .notPermitted &&
    answers .alarmShelve 0x2C#8 (shelveBody 1 1) advised .notPermitted = true := by decide +kernel
theorem test_unshelve :
    got (.alarmUnshelve .station (bytes [0])) (asked .station 0x2D#8 (bytes [0]) shelved)
      (fun t => decide ((t.alarms.runs[0]).shelvedUntil = none) && t.alarms.hornRequest) &&
    got (.shelvingExpiry 0) shelved (fun t => decide ((t.alarms.runs[0]).shelvedUntil = none) && t.alarms.hornRequest) =
      true := by decide +kernel

/-- An alarm of class STOP on HOIST for each internal condition: 20 alarms, the limit of R6. -/
def twenty : AlarmProc :=
  { AlarmProc.fresh with
    defs := Vector.ofFn (fun n => if h : n.val < 20 then some (stopAlarm ⟨n.val, h⟩) else none) }

/-- A machine that GO finds complete. -/
def complete : State :=
  { State.reset with
    zones := ⟨twoZones, twoZones, [⟨3599, 1000, 1000, true⟩]⟩
    alarms := twenty
    walk := { Walk.fresh with table := some phases } }

def defBody (n : Nat) (d : Option AlarmDef) : List Byte := 4#8 :: byteOf n :: encodeAlarmDef d

theorem defHeld_stopAlarm (c : Fin 20) : DefHeld (stopAlarm c) where
  cap := nofun
  delay := Nat.le_of_ble_eq_true rfl
  motions := fun _ => ⟨.hoist, rfl⟩
  latching := nofun

/-- A driver input that is true, and an alarm on it. -/
def alarmOnInput : AlarmDef := { advisory with delayOn := 1 }
/-- A TRIP alarm on it without delay. -/
def atOnceOnInput : AlarmDef :=
  { advisory with cls := .trip, motions := ⟨false, true, false, false⟩, latching := true }
def withInput : State := State.reset.setAlarms { AlarmProc.fresh with driveInputs := some (-1) }

/-- The write of a slot is taken, fits, and carries the slot and the definition. -/
theorem defBody_carries :
    (writeFits (defBody 63 (some (stopAlarm 19))) = true ∧ byteAt (defBody 63 (some (stopAlarm 19))) 0 = 4 ∧
      byteAt (defBody 63 (some (stopAlarm 19))) 1 = 63 ∧
      decodeAlarmDef ((defBody 63 (some (stopAlarm 19))).drop 2) = some (some (stopAlarm 19))) ∧
    (writeFits (defBody 0 none) = true ∧ byteAt (defBody 0 none) 0 = 4 ∧ byteAt (defBody 0 none) 1 = 0 ∧
      decodeAlarmDef ((defBody 0 none).drop 2) = some none) ∧
    (writeFits (defBody 63 (some alarmOnInput)) = true ∧
      decodeAlarmDef ((defBody 63 (some alarmOnInput)).drop 2) = some (some alarmOnInput)) ∧
    (writeFits (defBody 63 (some atOnceOnInput)) = true ∧
      decodeAlarmDef ((defBody 63 (some atOnceOnInput)).drop 2) = some (some atOnceOnInput)) := by decide +kernel

theorem witness_AlarmDefinitionWrite :
    (TripsLatch (queued walking) ∧ step (queued walking) = .next walking) ∧
    (Takes .station 0x20#8 (defBody 64 none) (asked .station 0x20#8 (defBody 64 none) State.reset) ∧
      State.reset.ctl.mode = .config ∧ writeFits (defBody 64 none) = true ∧ byteAt (defBody 64 none) 0 = 4 ∧
      63 < byteAt (defBody 64 none) 1 ∧ decodeAlarmDef (bytes [1, 3, 0, 0, 0, 0, 0, 0, 0, 0, 0]) = none) ∧
    (complete.ctl.mode = .config ∧
      Takes .station 0x20#8 (defBody 63 (some (stopAlarm 19))) (asked .station 0x20#8 (defBody 63 (some (stopAlarm 19))) complete) ∧
      20 < motionCount (complete.alarms.defs.set (63 : Fin 64) (some (stopAlarm 19))) .hoist) ∧
    (Takes .station 0x20#8 (defBody 0 none) (asked .station 0x20#8 (defBody 0 none) complete) ∧
      ∀ m, motionCount (complete.alarms.defs.set (0 : Fin 64) none) m ≤ 20) ∧
    (Takes .station 0x20#8 (defBody 63 (some (stopAlarm 19))) (asked .station 0x20#8 (defBody 63 (some (stopAlarm 19))) State.reset) ∧
      (∀ m, motionCount (State.reset.alarms.defs.set (63 : Fin 64) (some (stopAlarm 19))) m ≤ 20) ∧
      rawCondition State.reset.alarms (stopAlarm 19) = false ∧ ConditionsSettled State.reset) ∧
    (Takes .station 0x20#8 (defBody 63 (some alarmOnInput)) (asked .station 0x20#8 (defBody 63 (some alarmOnInput)) withInput) ∧
      (∀ m, motionCount (withInput.alarms.defs.set (63 : Fin 64) (some alarmOnInput)) m ≤ 20) ∧
      rawCondition withInput.alarms alarmOnInput = true ∧ 0 < alarmOnInput.delayOn ∧ ConditionsSettled withInput) ∧
    (Takes .station 0x20#8 (defBody 63 (some atOnceOnInput)) (asked .station 0x20#8 (defBody 63 (some atOnceOnInput)) withInput) ∧
      (∀ m, motionCount (withInput.alarms.defs.set (63 : Fin 64) (some atOnceOnInput)) m ≤ 20) ∧
      rawCondition withInput.alarms atOnceOnInput = true ∧ atOnceOnInput.delayOn = 0 ∧ atOnceOnInput.cls = .trip ∧
      (¬∃ k, k ≠ (63 : Fin 64) ∧ stopTripActive withInput.alarms k = true) ∧ withInput.alarms.active.Nodup ∧
      ((withAlarm 63 atOnceOnInput .held withInput).alarms.active = [63] ∧
        (withAlarm 63 atOnceOnInput .held withInput).alarms.active.Nodup)) ∧
    (complete.alarms.active.Nodup ∧ ConsequencesExact complete) :=
  ⟨⟨TripsLatch_walking, step_walking⟩, ⟨takes_asked _ _ _ _ rfl, rfl, by decide, by decide, by decide, by decide⟩,
    ⟨rfl, takes_asked _ _ _ _ rfl, by decide +kernel⟩,
    ⟨takes_asked _ _ _ _ rfl, fun m => by cases m <;> decide +kernel⟩,
    ⟨takes_asked _ _ _ _ rfl, fun m => by cases m <;> decide +kernel, by decide +kernel,
      settled_of_internals _ rfl (by decide +kernel) rfl⟩,
    ⟨takes_asked _ _ _ _ rfl, fun m => by cases m <;> decide +kernel, by decide +kernel, by decide,
      settled_of_internals _ rfl (by decide +kernel) rfl⟩,
    ⟨takes_asked _ _ _ _ rfl, fun m => by cases m <;> decide +kernel, by decide +kernel, by decide, by decide,
      by decide +kernel, by decide +kernel, by decide +kernel⟩,
    by decide +kernel, by decide +kernel, fun n m => by revert n; cases m <;> decide +kernel⟩

/-- R132, step 6, with R135, R141 and R142: a source already true raises a TRIP alarm without delay at once. -/
theorem test_R132_raised_at_once :
    got (.tableWriteAlarmDef .station (defBody 63 (some atOnceOnInput))) (asked .station 0x20#8 (defBody 63 (some atOnceOnInput)) withInput)
      (fun t => decide ((t.alarms.runs[63]).state = .raised) && decide (t.alarms.active = [63]) &&
        decide (t.alarms.firstOut = some 63) && t.alarms.trip.isSome && hasSource t.records.drag.reasons (.alarm 63)) = true := by
  decide +kernel

theorem test_alarm_limit :
    answers .tableWriteAlarmDef 0x20#8 (defBody 63 (some (stopAlarm 19))) complete .limit &&
    answers .tableWriteAlarmDef 0x20#8 (defBody 19 (some (stopAlarm 19))) complete .accepted = true := by decide +kernel
theorem test_alarm_written_over :
    got (.tableWriteAlarmDef .station (defBody 63 none)) (asked .station 0x20#8 (defBody 63 none)
        (setRun 63 { AlarmRun.fresh with state := .held, count := 9, raw := true, filtered := true } (alarmed .held)))
      (fun t => decide (t.alarms.runs[63] = { AlarmRun.fresh with count := 9 }) && t.alarms.active.isEmpty) = true := by
  decide +kernel

/-! ### Lamps, horn and beacon -/

/-- A generator at the end of its half. -/
def halfDone (s : State) (g : GenId) (onHalf : Bool) : State :=
  s.setGen g { running := true, onHalf := onHalf, half := some ⟨25, 25⟩ }

/-- The operator's horn, at the end of a half. -/
def operatorHorn : State :=
  let s := halfDone State.reset .horn false
  s.setAnn { s.ann with grant := some .operator }

theorem witness_CadenceHalfExpiryChangesTheHalf :
    ((halfDone State.reset .slowLamp true).held = false ∧
      ((halfDone State.reset .slowLamp true).ann.gens.get .slowLamp).half = some ⟨25, 25⟩) ∧
    (operatorHorn.held = false ∧ (operatorHorn.ann.gens.get .horn).half = some ⟨25, 25⟩ ∧
      operatorHorn.ann.grant = some .operator) := by decide +kernel

/-- R152, R153: PAT_SLOW is off for 150 units. -/
theorem test_cadence :
    got (.cadenceHalfExpiry .slowLamp) (halfDone State.reset .slowLamp true)
      (fun t => decide (t.ann.gens.slowLamp = ⟨true, false, some ⟨0, 150⟩⟩)) = true := by decide +kernel

/-- Lamp 47 with one alarm mapped. -/
def lamp47 (n : Fin 64) (s : State) : State := s.setAnn { s.ann with lampMap := s.ann.lampMap.set 47 [n] }

/-- R150: each row of the table, and a first-out alarm that is HELD. -/
theorem test_R150_states :
    (lampState (lamp47 63 (alarmed .raised)) 47, lampState (lamp47 63 (alarmed .returned)) 47,
      lampState (lamp47 63 (alarmed .held)) 47, lampState (lamp47 63 (alarmed .normal)) 47, lampState (lamp47 0 shelved) 47) =
      (.fast, .slow, .steady, .off, .off) ∧
    lampState ((lamp47 63 (alarmed .held)).setAlarms { (alarmed .held).alarms with firstOut := some 63 }) 47 = .slow := by
  decide +kernel

theorem witness_LampStatesAndOutputs :
    let s := lamp47 63 (alarmed .raised)
    s.held = false ∧ s.ann.lampTest = false ∧ s.ann.lampDark = false ∧ lampState s 47 = .fast := by decide +kernel

/-- R151, R157, R158: a fast lamp in both halves, a lamp test over lamp dark, and the horn in its ON half. -/
theorem test_outputs :
    let s := lamp47 63 (alarmed .raised)
    let off := halfDone s .fastLamp false
    (lampOutput (halfDone s .fastLamp true) 47, lampOutput off 47, lampOutput (s.setAnn { s.ann with lampDark := true }) 47,
      lampOutput (off.setAnn { off.ann with lampDark := true, lampTest := true }) 47) = (true, false, false, true) ∧
    (hornOutput (halfDone s .horn true), hornOutput (halfDone s .horn false), hornOutput s) = (true, false, false) ∧
    beaconOutput ((halfDone s .beacon true).setSwing { s.swing with beaconRequest := true }) = true := by decide +kernel

theorem witness_LampDarkRequest :
    Takes .station 0x30#8 (bytes [2]) (asked .station 0x30#8 (bytes [2]) State.reset) ∧
      Takes .broadcast 0x30#8 (bytes [1]) (asked .broadcast 0x30#8 (bytes [1]) State.reset) ∧ 1 = true.toNat ∧
      0 = false.toNat := ⟨takes_asked _ _ _ _ rfl, takes_asked _ _ _ _ rfl, rfl, rfl⟩

theorem test_lamp_dark :
    answers .lampDark 0x30#8 (bytes [2]) State.reset .outOfRange && answers .lampDark 0x30#8 (bytes [0]) State.reset .noChange &&
    got (.lampDark .broadcast (bytes [1])) (asked .broadcast 0x30#8 (bytes [1]) State.reset)
      (fun t => t.ann.lampDark && t.links.monitor.buffer.isEmpty) = true := by decide +kernel

/-! ### Modes -/

def goBody (a b c d : Nat) : List Byte := le16 a ++ le16 b ++ le16 c ++ le16 d

/-- The drive link is lost. -/
def unlinked : State :=
  { complete with links := { complete.links with drive := { complete.links.drive with fresh := none, lost := true } } }

/-- With empty filters every check figure is 0. -/
theorem witness_GoRunsTheCheck :
    straight.params.taps.length = 8 ∧
    ((goBody 0 0 0 0).length = 8 ∧ complete.ctl.mode = .config ∧ State.reset.ctl.mode = .config) ∧
    (Takes .station 0x27#8 (goBody 0 0 0 0) (asked .station 0x27#8 (goBody 0 0 0 0) State.reset) ∧
      shortfall (asked .station 0x27#8 (goBody 0 0 0 0) State.reset) = some .zonesHoist) ∧
    (Takes .station 0x27#8 (goBody 0 0 0 1) (asked .station 0x27#8 (goBody 0 0 0 1) complete) ∧
      shortfall (asked .station 0x27#8 (goBody 0 0 0 1) complete) = none ∧
      (∀ m', Motion.code m' < Motion.code .walk → checkFigure (complete.channels.get m').params = 0) ∧
      checkFigure (complete.channels.get .walk).params ≠ wordAt (goBody 0 0 0 1) 6) ∧
    (Takes .station 0x27#8 (goBody 0 0 0 0) (asked .station 0x27#8 (goBody 0 0 0 0) complete) ∧
      (∀ m, checkFigure (complete.channels.get m).params = 0) ∧ complete.links.drive.lost = false) ∧
    (Takes .station 0x27#8 (goBody 0 0 0 0) (asked .station 0x27#8 (goBody 0 0 0 0) unlinked) ∧
      shortfall unlinked = none ∧ unlinked.links.drive.lost = true) :=
  ⟨rfl, by decide, ⟨takes_asked _ _ _ _ rfl, by decide +kernel⟩,
    ⟨takes_asked _ _ _ _ rfl, by decide +kernel, fun m _ => by cases m <;> decide +kernel, by decide +kernel⟩,
    ⟨takes_asked _ _ _ _ rfl, fun m => by cases m <;> decide +kernel, rfl⟩,
    takes_asked _ _ _ _ rfl, by decide +kernel, rfl⟩

/-- R64, the example. -/
theorem test_R64_figure :
    (checkFigure { ChannelParams.fresh with gain := [⟨false, 0⟩], taps := [⟨false, 1⟩] :: [⟨false, 1⟩] :: List.replicate 6 [] },
      checkFigure ChannelParams.fresh) = (1000, 0) := by decide +kernel

/-- R162: the first shortfall is reported, in the order of examination. -/
theorem test_shortfalls :
    got (.go .station (goBody 1 2 3 65535)) (asked .station 0x27#8 (goBody 1 2 3 65535) State.reset)
      (fun t => decide (t.ctl.mode = .config) && decide (t.ctl.check = .tableIncomplete .zonesHoist) &&
        decide (t.ctl.figures = ⟨1, 2, 3, 65535⟩) && decide (codeOf t = some .accepted)) = true ∧
    shortfall { complete with alarms := { twenty with defs := twenty.defs.set 7 none } } = some (.unwatched 7) ∧
    shortfall { complete with alarms := { twenty with
      defs := twenty.defs.set 18 (some { stopAlarm 18 with cls := .advisory }) } } = some (.cls 18) ∧
    shortfall { complete with alarms := { twenty with
      defs := twenty.defs.set 17 (some { stopAlarm 17 with cls := .advisory }) } } = none := by decide +kernel

theorem witness_CheckEndsInConfig :
    ((checking true).held = false ∧ (checking true).ctl.settleTimer = some ⟨200, 200⟩) ∧
      Takes .station 0x28#8 [] (asked .station 0x28#8 [] (checking false)) ∧
      (asked .station 0x28#8 [] (checking false)).ctl.mode = .check := ⟨⟨rfl, rfl⟩, takes_asked _ _ _ _ rfl, rfl⟩

theorem test_settle_expires :
    got .settleTimerExpiry (checking true) (fun t => decide (t.ctl.check = .brakesNotConfirmed)) &&
    got .settleTimerExpiry (checking false) (fun t => decide (t.ctl.check = .driveLinkDown) && decide (t.ctl.mode = .config)) =
      true := by decide +kernel
theorem test_abort :
    got (.abortCheck .station []) (asked .station 0x28#8 [] (checking false)) (fun t => decide (t.ctl.check = .aborted) &&
      decide (t.ctl.mode = .config) && decide (t.ctl.settleTimer = none)) = true := by decide +kernel

/-- READY, with every brake SET and nothing moving. -/
def readyAtRest : State :=
  { inModeOf .ready with brakes := .replicate (standing .set), records := .replicate ⟨[], 0, 0⟩ }

def testDue : State := readyAtRest.setCtl { readyAtRest.ctl with testTimer := some ⟨100, 100⟩ }

theorem witness_ReadyIsLeft :
    (Takes .station 0x29#8 [] (asked .station 0x29#8 [] walking) ∧ walking.ctl.mode = .ready ∧
      (walking.brakes.get .walk).state ≠ .set) ∧
    (Takes .station 0x29#8 [] (asked .station 0x29#8 [] readyAtRest) ∧ readyAtRest.ctl.mode = .ready ∧
      (∀ m, (readyAtRest.brakes.get m).state = .set ∧ (readyAtRest.channels.get m).r = 0) ∧ EffectsAsCatalogued readyAtRest) ∧
    (testDue.held = false ∧ testDue.ctl.testTimer = some ⟨100, 100⟩) ∧ GateLaw (queued walking) :=
  ⟨⟨takes_asked _ _ _ _ rfl, rfl, by decide⟩,
    ⟨takes_asked _ _ _ _ rfl, rfl, fun m => by cases m <;> exact ⟨rfl, rfl⟩, fun m e he => by cases m <;> cases he⟩,
    ⟨rfl, rfl⟩, GateLaw_walking⟩

theorem test_stop_run_busy : answers .stopRun 0x29#8 [] walking .busy = true := by decide +kernel

theorem witness_TickAdvancesTheTimers : State.reset.held = false := rfl

/-- R160: machine time wraps; R67: a timer stands at its limit. -/
theorem test_tick :
    got .machineTimeTick (State.reset.setCtl { State.reset.ctl with time := 0xFFFFFFFF#32 })
      (fun t => decide (t.ctl.time = 0#32) && decide (t.links.drive.fresh = some ⟨1, 5⟩) &&
        decide (t.brakes.hoist.setTimer = some ⟨1, 150⟩)) &&
    got .machineTimeTick testDue (fun t => decide (t.ctl.testTimer = some ⟨100, 100⟩)) = true := by decide +kernel

/-- HOLD MONITOR stands on WALK. -/
def monitorHolds : State := withReasons .walk [⟨.hold .monitor, .stop⟩] State.reset

theorem witness_MonitorHoldsFollowTheRequests :
    (Takes .station 0x2E#8 [motionSetByte ⟨false, false, false, false⟩]
        (asked .station 0x2E#8 [motionSetByte ⟨false, false, false, false⟩] State.reset)) ∧
    (Takes .station 0x2F#8 [motionSetByte ⟨true, true, true, false⟩]
        (asked .station 0x2F#8 [motionSetByte ⟨true, true, true, false⟩] State.reset) ∧
      ∀ m, hasSource (State.reset.records.get m).reasons (.hold .monitor) = false) ∧
    (Takes .station 0x2F#8 [motionSetByte ⟨true, true, true, true⟩]
        (asked .station 0x2F#8 [motionSetByte ⟨true, true, true, true⟩] monitorHolds) ∧
      hasSource (monitorHolds.records.get .walk).reasons (.hold .monitor) = true) :=
  ⟨takes_asked _ _ _ _ rfl, ⟨takes_asked _ _ _ _ rfl, fun m => by cases m <;> decide⟩, takes_asked _ _ _ _ rfl, by decide⟩

theorem test_hold_set :
    got (.holdSet .station (bytes [9])) (asked .station 0x2E#8 (bytes [9]) State.reset)
      (fun t => hasSource t.records.hoist.reasons (.hold .monitor) && !hasSource t.records.drag.reasons (.hold .monitor) &&
        hasSource t.records.walk.reasons (.hold .monitor)) &&
    answers .holdSet 0x2E#8 (bytes [0]) State.reset .outOfRange && answers .holdSet 0x2E#8 (bytes [8]) monitorHolds .noChange =
      true := by decide +kernel
theorem test_hold_clear :
    got (.holdClear .station (bytes [15])) (asked .station 0x2F#8 (bytes [15]) monitorHolds)
      (fun t => decide (t.records.walk.reasons = []) && decide (codeOf t = some .accepted)) &&
    answers .holdClear 0x2F#8 (bytes [7]) monitorHolds .noChange && answers .holdClear 0x2F#8 (bytes [16]) monitorHolds .badFormat =
      true := by decide +kernel

/-! ### The links -/

/-- So many bytes of zeros as they stand on the line. -/
def rxZeros (n : Nat) (aborted : Bool) : RxFrame := ⟨List.replicate (8 * n) false, aborted⟩

/-- The line that brings them: an idle line, a flag, the bits, and a flag or an abort. -/
def lineZeros (n : Nat) (aborted : Bool) : List Bool :=
  List.replicate 9 true ++ flagBits ++ List.replicate (8 * n) false ++ if aborted then List.replicate 7 true else flagBits

/-- Two requests wait. -/
def full : State :=
  { State.reset with links := { State.reset.links with monitor := { State.reset.links.monitor with
      buffer := [⟨.station, 0x29#8, []⟩, ⟨.broadcast, 0x22#8, [1#8, 0xFF#8]⟩] } } }

theorem witness_FailedFrameIsCountedOnce :
    State.reset.held = false ∧ (full.held = false ∧ 2 ≤ full.links.monitor.buffer.length ∧
      State.reset.links.monitor.buffer.length < 2 ∧ byteOf (0x10 + full.links.station.val) = 0x10#8) ∧
      ((⟨0x01#8, 0x01#8, List.replicate 12 0#8⟩ : Frame).body.length = 12 ∧
        (⟨0x02#8, 0x02#8, List.replicate 33 0#8⟩ : Frame).body.length = 33 ∧
        (⟨0x10#8, 0x20#8, List.replicate 120 0#8⟩ : Frame).body.length ≤ 120) ∧
      (noSixOnes 0 (List.replicate 1000 false) = true ∧ 125 ≤ (bytesOf (removeZeros 0 (List.replicate 1000 false))).length) ∧ framesOn (lineZeros 0 false) = [rxZeros 0 false] ∧
      framesOn (lineZeros 4 false) = [rxZeros 4 false] ∧ framesOn (lineZeros 4 true) = [rxZeros 4 true] ∧
      failedCheck .cab (rxZeros 0 false) State.reset = none ∧
      failedCheck .monitor (rxZeros 4 false) State.reset = some .badFcs ∧
      (bytesOf (removeZeros 0 (rxZeros 1 false).bits)).length = 1 ∧ (bytesOf (removeZeros 0 (rxZeros 3 false).bits)).length = 3 ∧
      (bytesOf (removeZeros 0 (rxZeros 4 false).bits)).length = 4 ∧
      (removeZeros 0 (List.replicate 33 false)).length % 8 ≠ 0 ∧
      (bytesOf (removeZeros 0 (rxZeros 124 true).bits)).length = 124 ∧
      (bytesOf (removeZeros 0 (rxZeros 125 false).bits)).length = 125 := by decide +kernel

/-- R171: the checks in the order of the table, each at the ends of its range. -/
theorem test_link_checks :
    ([rxZeros 0 false, rxZeros 1 false, rxZeros 3 false, rxZeros 4 false, rxZeros 1 true, rxZeros 124 true,
      ⟨List.replicate 33 false, false⟩].map linkCheck) =
      [.fill, .failed .runt, .failed .runt, .failed .badFcs, .failed .aborted, .failed .aborted, .failed .badFcs] := by decide +kernel
theorem test_link_long : linkCheck (rxZeros 125 false) = .failed .long ∧ linkCheck (rxZeros 125 true) = .failed .long := by
  decide +kernel
/-- R171: with 124 bytes received, the last bit of the 125th makes the frame too long at once, and the one before does not;
after it an abort is ignored. -/
theorem test_long_at_once :
    let at124 : Receiver := ⟨0, some (List.replicate 992 false)⟩
    ((listen at124 (List.replicate 8 false)).discarded.map linkCheck, (listen at124 (List.replicate 7 false)).discarded) =
        ([.failed .long], []) ∧
      (receive ⟨0, some (List.replicate 1000 false)⟩ (List.replicate 7 true)).map linkCheck = [.failed .long] ∧
      (receive at124 (List.replicate 7 true)).map linkCheck = [.failed .aborted] := by decide +kernel

theorem test_counter_stands :
    got (.frameCheckFailed .drive (lineZeros 1 false)) { State.reset with links := { State.reset.links with
        drive := { State.reset.links.drive with counters := ⟨255, 0, 0, 0, 0⟩ } } }
      (fun t => decide (t.links.drive.counters = ⟨255, 0, 0, 0, 0⟩)) = true := by decide +kernel

/-- R171, R172: of the frames that pass the link checks, a cyclic frame of another kind or length at its own address is
FORMAT, and one to another address is nothing; a request to a full buffer is OVERRUN. -/
theorem test_frame_checks :
    let check (p : Port) (f : Frame) (s : State) := failedCheck p ⟨insertZeros 0 (bitsOf (frameBytes f)), false⟩ s
    [check .cab ⟨1#8, 1#8, List.replicate 12 0#8⟩ State.reset, check .cab ⟨1#8, 1#8, [0#8]⟩ State.reset,
      check .cab ⟨1#8, 2#8, List.replicate 12 0#8⟩ State.reset, check .cab ⟨2#8, 2#8, []⟩ State.reset,
      check .drive ⟨2#8, 2#8, List.replicate 12 0#8⟩ State.reset, check .monitor ⟨0x10#8, 0x99#8, []⟩ State.reset,
      check .monitor ⟨0x10#8, 0x99#8, []⟩ full, check .monitor ⟨0xFF#8, 0x20#8, []⟩ full, check .monitor ⟨0x11#8, 0x20#8, []⟩ full] =
      [none, some .format, some .format, none, some .format, none, some .overrun, some .overrun, none] := by decide +kernel

/-- A response is being sent. -/
def sending : State :=
  { full with links := { full.links with monitor := { full.links.monitor with response := some ⟨0x29#8, .wrongMode, []⟩ } } }

theorem witness_MonitorBufferHoldsTwo :
    (State.reset.held = false ∧ (List.replicate 120 0#8).length ≤ 120 ∧
      0x11#8 ≠ byteOf (0x10 + State.reset.links.station.val) ∧ 0x11#8 ≠ 0xFF#8 ∧
      0x10#8 = byteOf (0x10 + State.reset.links.station.val)) ∧
    (full.held = false ∧ 2 ≤ full.links.monitor.buffer.length) ∧ State.reset.links.monitor.buffer.length < 2 ∧
    (sending.held = false ∧ sending.links.monitor.response = some ⟨0x29#8, .wrongMode, []⟩ ∧
      ¬((0x29#8 : Byte) = 0x32#8 ∧ ResultCode.wrongMode = .accepted)) := by decide +kernel

theorem test_buffer :
    got (.monitorFrameReceived 0xFF#8 0x24#8 []) full (fun t => decide (t.links.monitor.overrun = 1) &&
      decide (t.links.monitor.buffer = full.links.monitor.buffer)) &&
    got (.monitorFrameReceived 0x10#8 0x24#8 []) State.reset (fun t =>
      decide (t.links.monitor.buffer = [⟨.station, 0x24#8, []⟩])) = true := by decide +kernel
theorem test_response_sent :
    got (.monitorResponseSent 0) sending (fun t => decide (t.links.monitor.response = none) &&
      decide (t.links.monitor.buffer = [⟨.broadcast, 0x22#8, [1#8, 0xFF#8]⟩])) &&
    got (.monitorResponseSent 7) restarting (fun t => decide (t.ctl.resetCause = .restart) && decide (t.links.station = 7)) =
      true := by decide +kernel

theorem unfit_stop : ¬BodyFits 0x32#8 [0#8] := fun h => absurd (h.none (by decide)) (by decide)
theorem unfit_write : ¬BodyFits 0x20#8 [1#8] := fun h => absurd (h.write rfl).1 (by decide)
/-- ZONES of an axis without a zone table, with bytes after a count of 0. -/
theorem unfit_zones : ¬BodyFits 0x20#8 (bytes [2, 3, 0, 9]) :=
  fun h => absurd (((h.write rfl).2.zones rfl).2.2.2 (by decide)) (by decide)
theorem bodyFits_holds : BodyFits 0x2E#8 (bytes [15]) := by
  constructor <;> first | (intro _; decide) | (intro h; exact absurd h (by decide))

theorem witness_UnjudgeableRequestsAreCounted :
    (¬BodyFits 0x32#8 [0#8] ∧ ¬BodyFits 0x20#8 [1#8] ∧ ¬BodyFits 0x20#8 (bytes [2, 3, 0, 9]) ∧ BodyFits 0x2E#8 (bytes [15]) ∧
      Takes .station 0x2E#8 (bytes [15]) (asked .station 0x2E#8 (bytes [15]) State.reset)) ∧
    (Takes .station 0x33#8 [] (asked .station 0x33#8 [] State.reset) ∧
      Takes .broadcast 0x1F#8 [] (asked .broadcast 0x1F#8 [] State.reset)) ∧
      (0x32 < (0x33#8 : Byte).toNat ∧ (0x1F#8 : Byte).toNat < 0x20) ∧
      (Takes .station 0x32#8 [0#8] (asked .station 0x32#8 [0#8] State.reset) ∧ requestFits 0x32#8 [0#8] = false ∧
        Takes .station 0x20#8 [1#8] (asked .station 0x20#8 [1#8] State.reset) ∧ requestFits 0x20#8 [1#8] = false) :=
  ⟨⟨unfit_stop, unfit_write, unfit_zones, bodyFits_holds, takes_asked _ _ _ _ rfl⟩,
    ⟨takes_asked _ _ _ _ rfl, takes_asked _ _ _ _ rfl⟩, by decide, takes_asked _ _ _ _ rfl, by decide, takes_asked _ _ _ _ rfl,
    by decide⟩

theorem test_unjudgeable :
    got (.unknownKind .station 0x33#8 []) (asked .station 0x33#8 [] State.reset)
      (fun t => decide (codeOf t = some .unknownKind) && decide (t.links.monitor.counters.format = 1)) &&
    got (.badFormat .broadcast 0x20#8 [1#8]) (asked .broadcast 0x20#8 [1#8] State.reset)
      (fun t => decide (t.links.monitor.buffer = []) && decide (t.links.monitor.counters.format = 1)) = true := by
  decide +kernel

/-- R182: the count byte fixes the length of a ZONES encoding; an axis without a zone table takes either zone length and
answers OUT_OF_RANGE, and no other. -/
theorem test_R182_zones :
    [[2, 0, 0], [2, 2, 0], [2, 3, 0], [2, 3, 1, 1, 2, 3, 4, 5, 6], [2, 255, 1, 1, 2, 3, 4, 5, 6, 7]].all (fun b => writeFits (bytes b)) &&
    [[2, 3], [2, 3, 0, 9], [2, 3, 1, 1, 2, 3, 4, 5, 6, 7, 8], [2, 0, 1, 1, 2, 3, 4, 5, 6, 7], [2, 2, 1, 1, 2, 3, 4, 5, 6]].all
      (fun b => !writeFits (bytes b)) &&
    answers .tableWriteZones 0x20#8 (bytes [2, 3, 0]) State.reset .outOfRange &&
    answers .tableWriteZones 0x20#8 (bytes [2, 3, 0, 9]) State.reset .badFormat = true := by decide +kernel

theorem witness_ReadsAnswerAndTwoClear :
    BrakeTimersInState (asked .station 0x22#8 (bytes [3, 255]) (queued walking)) ∧
    Takes .station 0x21#8 (bytes [8, 255]) (asked .station 0x21#8 (bytes [8, 255]) State.reset) ∧
      Takes .station 0x22#8 (bytes [0, 119]) (asked .station 0x22#8 (bytes [0, 119]) State.reset) ∧
      Takes .station 0x23#8 (bytes [64]) (asked .station 0x23#8 (bytes [64]) walking) ∧
      Takes .station 0x24#8 [] (asked .station 0x24#8 [] State.reset) ∧
      Takes .station 0x25#8 (bytes [4]) (asked .station 0x25#8 (bytes [4]) State.reset) ∧
      Takes .broadcast 0x26#8 [] (asked .broadcast 0x26#8 [] State.reset) := by
  refine ⟨BrakeTimersInState_walking, ?_, ?_, ?_, ?_, ?_, ?_⟩ <;> exact takes_asked _ _ _ _ rfl

/-- The data of the response being sent. -/
def dataOf (s : State) : List Byte := (s.links.monitor.response.map Response.data).getD []

/-- R182: each part of the status has the length its fields give, and fits a frame; a reset CHANNEL reads back as 35 bytes.
-/
theorem test_status_lengths :
    ([(0, 0), (1, 255), (2, 255), (3, 255), (4, 255), (5, 255), (6, 3), (7, 255), (8, 255)].map
      (fun p => ((statusPart State.reset p.1 p.2).map List.length))) =
      [some (12 + 3 * 6), some (5 * 11 + 2 * 3 + 1), some (4 * 14), some (4 * 9), some 18, some 34, some 66, some 57, some 19] ∧
    statusPart State.reset 9 255 = none ∧ statusPart State.reset 6 4 = none ∧ statusPart State.reset 0 120 = none := by
  decide +kernel

/-- R182, R24: the record of a HOIST that WALK_ENGAGED stops. -/
theorem test_status_record :
    statusPart walking 0 0 = some (bytes [1, 2, 3, 0, 0, 0, 0, 0, 0, 0, 0, 0, 3, 0, 1, 255, 255, 255]) := by decide +kernel

theorem test_peak_read :
    got (.peakRead .station (bytes [3])) (asked .station 0x25#8 (bytes [3]) walking)
      (fun t => decide (dataOf t = le16 1000 ++ le16 0) && decide (t.channels.walk.peak = 0)) &&
    answers .peakRead 0x25#8 (bytes [4]) walking .outOfRange = true := by decide +kernel
theorem test_alarm_list_read :
    got (.alarmListRead .station (bytes [0])) (asked .station 0x23#8 (bytes [0]) walking)
      (fun t => decide (dataOf t = bytes [1, 255, 63, 2, 0, 0, 255, 255, 255, 255, 255, 255, 255, 255])) = true := by
  decide +kernel
theorem test_table_read :
    got (.tableRead .station (bytes [6, 5])) (asked .station 0x21#8 (bytes [6, 5]) State.reset)
      (fun t => decide (dataOf t = bytes [6, 5, 49, 149, 0, 0])) &&
    answers .tableRead 0x21#8 (bytes [8, 0]) State.reset .outOfRange = true := by decide +kernel
theorem test_trip_record_read :
    got (.tripRecordRead .station []) (asked .station 0x24#8 [] State.reset) (fun t => decide (dataOf t = [0#8])) = true := by
  decide +kernel
theorem test_status_read :
    got (.statusRead .station (bytes [8, 255])) (asked .station 0x22#8 (bytes [8, 255]) (inModeOf .lockout))
      (fun t => decide (dataOf t = bytes [3, 0, 255, 255, 0, 0, 0, 0, 0, 0, 0, 0, 255, 255, 0, 0, 0, 0, 0])) = true := by
  decide +kernel
theorem test_counters_read :
    got (.linkCountersRead .station []) (asked .station 0x26#8 [] { full with links := { full.links with
        monitor := { full.links.monitor with overrun := 7, counters := ⟨1, 2, 3, 4, 5⟩ } } })
      (fun t => decide ((dataOf t).drop 10 = bytes [1, 2, 3, 4, 7, 5]) && decide (t.links.monitor.overrun = 0)) = true := by
  decide +kernel

/-- The reference timer is due. -/
def referenceDue : State := { walking with links := { walking.links with refTimer := ⟨1, 1⟩ } }

theorem witness_CyclicFramesAreSent : State.reset.held = false ∧ referenceDue.held = false ∧ referenceDue.links.refTimer.due = true := by
  decide +kernel

/-- R181: r of the walk is divided into WALK_L and WALK_R; release request bit 3; mode READY. -/
theorem test_drive_reference :
    got .driveReference referenceDue (fun t => decide ((t.links.driveSent.map Frame.body).getD [] =
      bytes [0, 0, 0, 0, 0, 0, 0xF4, 1, 0, 0, 8, 2])) = true := by decide +kernel
theorem test_cab_status_done :
    got .cabStatusTxDone { State.reset with links := { State.reset.links with cabSending := some ⟨1#8, 0x81#8, []⟩, cabWaiting := some ⟨1#8, 0x81#8, [3#8]⟩ } }
      (fun t => decide (t.links.cabSending = some ⟨1#8, 0x81#8, [3#8]⟩) && decide (t.links.cabWaiting = none)) &&
    decide ((cabStatusBody walking).length = 64) = true := by decide +kernel

/-- Both freshness timers at their ends. -/
def silent (s : State) : State :=
  { s with links := { s.links with cab := { s.links.cab with fresh := some ⟨10, 10⟩ }, drive := { s.links.drive with fresh := some ⟨5, 5⟩ } } }

theorem witness_LostLinksAreHandedOn :
    (silent walking).held = false ∧ (silent walking).links.cab.fresh = some ⟨10, 10⟩ ∧
      (silent walking).links.drive.fresh = some ⟨5, 5⟩ := by decide +kernel

theorem test_cab_lost :
    got .cabLinkLost (silent walking) (fun t => t.links.cab.lost && !t.channels.walk.armed && t.alarms.internals.getLsbD 0 &&
      decide (t.links.cab.fresh = none)) = true := by decide +kernel
theorem test_drive_lost :
    got .driveLinkLost (silent (checking true)) (fun t => decide (t.ctl.mode = .config) &&
      decide (t.ctl.check = .driveLinkDown) && t.alarms.internals.getLsbD 1) = true := by decide +kernel

theorem witness_RefusedRequestsChangeNothing :
    (Takes .station 0x20#8 (bytes [0, 0]) (asked .station 0x20#8 (bytes [0, 0]) State.reset) ∧ writeFits (bytes [0, 0]) = true ∧
      byteAt (bytes [0, 0]) 0 = 0 ∧ byteAt (bytes [0, 0]) 0 ≠ 1 ∧
      (1, Instr.tableWriteChannel) ∈ [(1, Instr.tableWriteChannel), (2, Instr.tableWriteZones)]) ∧
    (Takes .station 0x20#8 (bytes [9, 0]) (asked .station 0x20#8 (bytes [9, 0]) (inModeOf .ready)) ∧
      writeFits (bytes [9, 0]) = true ∧ 8 < byteAt (bytes [9, 0]) 0 ∧ (inModeOf .ready).ctl.mode ≠ .config) ∧
    (Takes .station 0x27#8 (goBody 0 0 0 0) (asked .station 0x27#8 (goBody 0 0 0 0) (inModeOf .check)) ∧
      (inModeOf .check).ctl.mode ≠ .config) ∧
    (Takes .station 0x28#8 [] (asked .station 0x28#8 [] State.reset) ∧ State.reset.ctl.mode ≠ .check) ∧
    (Takes .station 0x29#8 [] (asked .station 0x29#8 [] State.reset) ∧ State.reset.ctl.mode ≠ .ready) :=
  ⟨⟨takes_asked _ _ _ _ rfl, by decide, by decide, by decide, List.mem_cons_self⟩,
    ⟨takes_asked _ _ _ _ rfl, by decide, by decide, by decide⟩, ⟨takes_asked _ _ _ _ rfl, by decide⟩,
    ⟨takes_asked _ _ _ _ rfl, by decide⟩, takes_asked _ _ _ _ rfl, by decide⟩

theorem test_wrong_mode :
    answers (fun d b => .restart d b 0) 0x32#8 [] (inModeOf .ready) .wrongMode && answers .go 0x27#8 (goBody 0 0 0 0) (inModeOf .lockout) .wrongMode &&
    answers .tableWritePattern 0x20#8 (bytes [6, 9, 0, 0, 9, 9]) (inModeOf .check) .wrongMode = true := by decide +kernel
theorem test_restart_broadcast :
    got (.restart .broadcast [] 3) (asked .broadcast 0x32#8 [] (inModeOf .lockout))
      (fun t => decide (t.ctl.mode = .config) && decide (t.ctl.resetCause = .restart) && decide (t.links.station = 3)) = true := by
  decide +kernel

/-! ### Frames and tables -/

theorem witness_FramesSurviveTheLine :
    (⟨0x1F#8, 0xFF#8, List.replicate 120 0xFF#8⟩ : Frame).body.length ≤ 120 ∧
      noSixOnes 0 [true, true, true, true, true] = true ∧ noSixOnes 0 [true, false] = true ∧
      [true, false].getLast? = some false ∧
      (bytesOf (removeZeros 0 ([true, false] ++ List.replicate 6 true))).length < 125 ∧ 7 ≤ 7 := by decide

/-- R170: a closing flag opens the next frame, idle flags bring fill, an abort ends a frame and the bits up to the next
flag belong to none, and six ones with a zero make a flag where seven make an abort. -/
theorem test_R170_receiver :
    framesOn (flagBits ++ [false, true] ++ flagBits ++ [true] ++ flagBits ++ flagBits) =
        [⟨[false, true], false⟩, ⟨[true], false⟩, ⟨[], false⟩] ∧
      framesOn (flagBits ++ [true, false] ++ List.replicate 7 true ++ [false, true] ++ flagBits ++ [false] ++ flagBits) =
        [⟨[true, false], true⟩, ⟨[false], false⟩] ∧
      framesOn [true, false, true] = [] := by decide

theorem channelHeld_straight : ChannelHeld straight.params where
  db := by decide
  gain := by unfold CoeffHeld; decide
  count := by decide
  taps := by unfold CoeffHeld; decide
  aUp := by decide
  aDown := by decide
  aStop := by decide

theorem axisHeld_fresh (a : Axis) : AxisHeld a AxisParams.fresh where
  delta := by decide
  rope := fun h => by cases a <;> first | exact absurd h (by decide) | decide
  circle := fun h => by cases a <;> first | exact absurd h (by decide) | decide
  mark := by cases a <;> decide
  lookahead := by cases a <;> decide
  slope := by cases a <;> decide

theorem machineHeld_fresh : MachineHeld MachineParams.fresh where
  brakes := by intro m; cases m <;> (unfold BrakeParamsHeld; decide)
  supervisor := by decide
  swing := by decide
  sync := by decide
  walk := by decide

theorem witness_TablesSurviveTheirEncoding :
    ((encodeZones true [⟨3599, 1000, 1000, true⟩]).length = 1 + byteAt (encodeZones true [⟨3599, 1000, 1000, true⟩]) 0 * 7 ∧
      (encodePhases (some phases)).length = 36 ∧ (encodeAlarmDef (some (stopAlarm 19))).length = 11 ∧
      byteAt (encodeAlarmDef (some (stopAlarm 19))) 5 < 16 ∧ (bytes [4, 63, 0, 1, 2]).length = 1 + byteAt (bytes [4, 63, 0, 1, 2]) 0 ∧
      (encodePattern ⟨255, 255, 7, true⟩).length = 4 ∧ (encodeAxis .camR AxisParams.fresh).length = 14 ∧
      (encodeMachine MachineParams.fresh).length = 62) ∧
    ChannelHeld straight.params ∧ ZonesHeld false twoZones ∧ ZonesHeld true [⟨3599, 1000, 1000, true⟩] ∧
      PhasesHeld phases ∧ DefHeld (stopAlarm 19) ∧ LampMapHeld [63, 0, 1, 2] ∧ PatternHeld ⟨255, 255, 7, true⟩ ∧
      AxisHeld .camR AxisParams.fresh ∧ MachineHeld MachineParams.fresh :=
  ⟨by decide, channelHeld_straight, zonesHeld_twoZones, zonesHeld_one, phasesHeld_phases, defHeld_stopAlarm 19,
    by unfold LampMapHeld; decide, by unfold PatternHeld; decide, axisHeld_fresh .camR, machineHeld_fresh⟩

/-- R182, R43: a record written in any order reads back ascending, and an exponent of 13 is out of range. -/
theorem test_R43_sorted :
    decodeCoeff (bytes [0xC3, 0, 0x80]) = some [⟨false, 0⟩, ⟨true, 3⟩] ∧ decodeCoeff (bytes [0x8D, 0, 0]) = none ∧
      decodeCoeff (bytes [0x83, 0xC3, 0]) = none ∧
      encodeCoeff [⟨false, 0⟩, ⟨true, 3⟩] = bytes [0x80, 0xC3, 0] := by decide

/-- R131: TRIP is held latching, a class with an effect needs a motion, and a slow cap counts for SLOW only. -/
theorem test_R131_definitions :
    decodeAlarmDef (bytes [1, 2, 15, 1, 3, 4, 0xFF, 0xFF, 255, 0, 1]) =
      some (some ⟨.cabInput 15, .activeFalse, .trip, ⟨false, false, true, false⟩, 255, true, true⟩) ∧
    decodeAlarmDef (bytes [1, 0, 0, 0, 2, 0, 0, 0, 0, 0, 0]) = none ∧
    decodeAlarmDef (bytes [1, 0, 0, 0, 1, 1, 0xE9, 3, 0, 0, 0]) = none ∧ decodeAlarmDef (bytes [0, 9, 9]) = some none := by
  decide

theorem witness_MotionTableWrites :
    (State.reset.ctl.mode = .config ∧ ChannelHeld straight.params ∧ ZonesHeld (decide (1 = 2)) twoZones ∧
      ZonesHeld (decide (2 = 2)) [⟨3599, 1000, 1000, true⟩] ∧ PhasesHeld phases ∧ LampMapHeld [63, 0, 1, 2]) ∧
    Takes .station 0x20#8 (3#8 :: 0xFF#8 :: encodePhases (some phases))
      (asked .station 0x20#8 (3#8 :: 0xFF#8 :: encodePhases (some phases)) State.reset) ∧
    (writeFits (1#8 :: 3#8 :: encodeChannel straight.params) = true ∧
      decodeChannel ((1#8 :: 3#8 :: encodeChannel straight.params).drop 2) = some straight.params) ∧
    (writeFits (1#8 :: 4#8 :: encodeChannel straight.params) = true ∧ writeFits (bytes [2, 3, 0]) = true ∧
      writeFits (3#8 :: 0#8 :: encodePhases (some phases)) = true ∧ writeFits (bytes [5, 48, 0]) = true ∧
      decodeLampMap (bytes [2, 63, 63]) = none) :=
  ⟨⟨rfl, channelHeld_straight, zonesHeld_twoZones, zonesHeld_one, phasesHeld_phases, by unfold LampMapHeld; decide⟩,
    takes_asked _ _ _ _ rfl, by decide, by decide⟩

theorem test_table_writes :
    answers .tableWriteChannel 0x20#8 (1#8 :: 3#8 :: encodeChannel straight.params) State.reset .accepted &&
    answers .tableWriteZones 0x20#8 (2#8 :: 3#8 :: encodeZones false twoZones) State.reset .outOfRange &&
    answers .tableWriteWalkPhases 0x20#8 (3#8 :: 0xFF#8 :: encodePhases (some phases)) State.reset .accepted &&
    answers .tableWriteLampMap 0x20#8 (bytes [5, 47, 2, 63, 63]) State.reset .outOfRange = true := by decide +kernel

theorem witness_ParameterTableWrites :
    (State.reset.ctl.mode = .config ∧ patternOfCode 5 = some .slow ∧ PatternHeld ⟨255, 255, 7, true⟩ ∧
      axisOfCode 4 = some .camR ∧ AxisHeld .camR AxisParams.fresh ∧ MachineHeld MachineParams.fresh) ∧
    Takes .station 0x20#8 (8#8 :: 0xFF#8 :: encodeMachine MachineParams.fresh)
      (asked .station 0x20#8 (8#8 :: 0xFF#8 :: encodeMachine MachineParams.fresh) State.reset) ∧
    (writeFits (bytes [6, 6, 0, 0, 0, 0]) = true ∧ decodePattern (bytes [0, 0, 8, 0]) = none ∧
      writeFits (7#8 :: 4#8 :: encodeAxis .hoist AxisParams.fresh) = true ∧ axisOfCode 4 = some .camR ∧
      decodeAxis .camR (encodeAxis .hoist AxisParams.fresh) = none ∧
      writeFits (8#8 :: 0#8 :: encodeMachine MachineParams.fresh) = true) :=
  ⟨⟨rfl, rfl, by unfold PatternHeld; decide, rfl, axisHeld_fresh .camR, machineHeld_fresh⟩, takes_asked _ _ _ _ rfl,
    by decide⟩

theorem test_parameter_writes :
    got (.tableWritePattern .station (bytes [6, 4, 9, 19, 1, 0])) (asked .station 0x20#8 (bytes [6, 4, 9, 19, 1, 0]) State.reset)
      (fun t => decide (t.ann.gens.fastLamp = ⟨true, true, some ⟨0, 20⟩⟩)) &&
    answers .tableWriteAxis 0x20#8 (bytes [7, 3, 0, 1, 0, 1, 0, 0, 0, 0x10, 0x0E, 0, 0, 0, 0, 0]) State.reset .outOfRange &&
    answers .tableWriteAxis 0x20#8 (bytes [7, 3, 1, 1, 0, 0, 0, 0, 0, 0x10, 0x0E, 0, 0, 0, 0, 0]) State.reset .accepted &&
    answers .tableWriteMachine 0x20#8 (8#8 :: 0#8 :: encodeMachine MachineParams.fresh) State.reset .outOfRange = true := by
  decide +kernel

end Sys2Proof.Tests
end

section
/-! SUPPORT. The authority table: the least cap of a record and what bounds a sample (R9), the primary cause and the permit
state (R7, R8), and the records at a reset (R10). -/

namespace Sys2Proof.Machine
open Sys2Proof

/-! ### The least of a list under a limit -/

/-- A number is at most the least of a list under a limit exactly when it is at most the limit and every member. -/
theorem le_foldl_min_iff (a : Nat) (l : List Nat) (limit : Nat) :
    a ≤ l.foldl min limit ↔ a ≤ limit ∧ ∀ x ∈ l, a ≤ x := by
  induction l generalizing limit with
  | nil => simp
  | cons x l ih =>
    rw [List.foldl_cons, ih, Nat.le_min, List.forall_mem_cons, and_assoc]

theorem foldl_min_le_limit (l : List Nat) (limit : Nat) : l.foldl min limit ≤ limit :=
  ((le_foldl_min_iff _ l limit).mp (Nat.le_refl _)).1

theorem foldl_min_le_of_mem {l : List Nat} {x : Nat} (limit : Nat) (hx : x ∈ l) : l.foldl min limit ≤ x :=
  ((le_foldl_min_iff _ l limit).mp (Nat.le_refl _)).2 x hx

theorem foldl_min_eq_limit_or_mem (l : List Nat) (limit : Nat) :
    l.foldl min limit = limit ∨ l.foldl min limit ∈ l := by
  induction l generalizing limit with
  | nil => exact .inl rfl
  | cons x l ih =>
    rw [List.foldl_cons]
    rcases ih (min limit x) with h | h
    · rw [h]
      rcases Nat.le_total limit x with hx | hx
      · exact .inl (Nat.min_eq_left hx)
      · exact .inr (by rw [Nat.min_eq_right hx]; exact List.mem_cons_self)
    · exact .inr (List.mem_cons_of_mem _ h)

/-! ### Effective caps (R9) -/

theorem capOn_eq_some_iff (d : Dir) (e : Reason) (v : Nat) :
    capOn d e = some v ↔ ∃ dir, e.effect = .cap v dir ∧ dir.covers d = true := by
  unfold capOn
  cases e.effect with
  | cap w dir =>
    simp only [Option.ite_none_right_eq_some, Option.some.injEq, Effect.cap.injEq]
    constructor
    · rintro ⟨hcovers, rfl⟩
      exact ⟨dir, ⟨rfl, rfl⟩, hcovers⟩
    · rintro ⟨dir', ⟨rfl, rfl⟩, hcovers⟩
      exact ⟨hcovers, rfl⟩
  | stop => exact ⟨nofun, nofun⟩
  | trip => exact ⟨nofun, nofun⟩

theorem effectiveCap_le_limit (r : Record) (d : Dir) : effectiveCap r d ≤ min (r.zoneCap d) 1000 :=
  foldl_min_le_limit _ _

theorem effectiveCap_le_zoneCap (r : Record) (d : Dir) : effectiveCap r d ≤ r.zoneCap d :=
  Nat.le_trans (effectiveCap_le_limit r d) (Nat.min_le_left _ _)

theorem effectiveCap_le_thousand (r : Record) (d : Dir) : effectiveCap r d ≤ 1000 :=
  Nat.le_trans (effectiveCap_le_limit r d) (Nat.min_le_right _ _)

theorem effectiveCap_le_covering {r : Record} {d : Dir} {e : Reason} {v : Nat} {dir : CapDir} (he : e ∈ r.reasons)
    (hv : e.effect = .cap v dir) (hd : dir.covers d = true) : effectiveCap r d ≤ v :=
  foldl_min_le_of_mem _ (List.mem_filterMap.mpr ⟨e, he, (capOn_eq_some_iff d e v).mpr ⟨dir, hv, hd⟩⟩)

/-- The effective cap is one of the values it is the least of. -/
theorem effectiveCap_attained (r : Record) (d : Dir) :
    effectiveCap r d = r.zoneCap d ∨ effectiveCap r d = 1000 ∨
      ∃ e ∈ r.reasons, ∃ dir, e.effect = .cap (effectiveCap r d) dir ∧ dir.covers d = true := by
  rcases foldl_min_eq_limit_or_mem (r.reasons.filterMap (capOn d)) (min (r.zoneCap d) 1000) with h | h
  · have hlimit : effectiveCap r d = min (r.zoneCap d) 1000 := h
    omega
  · obtain ⟨e, he, hv⟩ := List.mem_filterMap.mp h
    exact .inr (.inr ⟨e, he, (capOn_eq_some_iff d e _).mp hv⟩)

/-! ### A sample under its own caps (R42, R59) -/

@[simp] theorem takeZoneCaps_record (m : Motion) (s : State) :
    (takeZoneCaps m s).records.get m =
      { s.records.get m with zonePos := zoneCap s m .pos, zoneNeg := zoneCap s m .neg } := by
  simp [takeZoneCaps]

theorem limitToCaps_bounds (pos neg : Nat) (x : Int) :
    -(neg : Int) ≤ limitToCaps pos neg x ∧ limitToCaps pos neg x ≤ pos := by
  unfold limitToCaps
  repeat' split
  all_goals omega

/-- The published reference is 0 at a trip or an unreleased brake, and else the clamped one. -/
theorem sampleChannel_r_bounds (ch : Channel) (permit : Permit) (pos neg : Nat) (lost released : Bool) :
    -(neg : Int) ≤ (sampleChannel ch permit pos neg lost released).r ∧
      (sampleChannel ch permit pos neg lost released).r ≤ pos := by
  simp only [sampleChannel]
  split
  · omega
  · exact limitToCaps_bounds _ _ _

/-! ### Primary cause and permit state (R7, R8) -/

theorem Effect.isCap_iff (e : Effect) : e.isCap = true ↔ ∃ v d, e = .cap v d := by cases e <;> simp [Effect.isCap]

/-- What is no CAP halts: it is a STOP or a TRIP. -/
theorem Effect.not_isCap_iff (e : Effect) : e.isCap = false ↔ e = .stop ∨ e = .trip := by
  cases e <;> simp [Effect.isCap]

theorem primaryCause_eq_none_iff (rs : List Reason) :
    primaryCause rs = none ↔ ∀ e ∈ rs, ∃ v d, e.effect = .cap v d := by
  simp [primaryCause, Effect.isCap_iff]

theorem primaryCause_eq_some_iff (rs : List Reason) (src : Source) :
    primaryCause rs = some src ↔
      ∃ older e newer, rs = older ++ e :: newer ∧ e.source = src ∧ (e.effect = .stop ∨ e.effect = .trip) ∧
        ∀ x ∈ older, ∃ v d, x.effect = .cap v d := by
  simp only [primaryCause, Option.map_eq_some_iff, List.find?_eq_some_iff_append, Bool.not_eq_true', Bool.not_not,
    Effect.not_isCap_iff, Effect.isCap_iff]
  constructor
  · rintro ⟨e, ⟨hhalt, older, newer, hrs, hcaps⟩, hsrc⟩
    exact ⟨older, e, newer, hrs, hsrc, hhalt, hcaps⟩
  · rintro ⟨older, e, newer, hrs, hsrc, hhalt, hcaps⟩
    exact ⟨e, ⟨hhalt, older, newer, hrs, hcaps⟩, hsrc⟩

/-- An update gives a CAP another cap and leaves a STOP or a TRIP as it is, so that no effect changes its kind (R3). -/
theorem Effect.updated_eq_or_cap (old new : Effect) :
    old.updated new = old ∨ ∃ v d w d', old = .cap v d ∧ old.updated new = .cap w d' := by
  cases old <;> cases new <;> simp [Effect.updated]

@[simp] theorem Effect.isCap_updated (old new : Effect) : (old.updated new).isCap = old.isCap := by
  rcases old.updated_eq_or_cap new with h | ⟨v, d, w, d', h, h'⟩
  · rw [h]
  · rw [h', h]; rfl

@[simp] theorem Effect.isStop_updated (old new : Effect) : (old.updated new).isStop = old.isStop := by
  rcases old.updated_eq_or_cap new with h | ⟨v, d, w, d', h, h'⟩
  · rw [h]
  · rw [h', h]; rfl

@[simp] theorem Effect.isTrip_updated (old new : Effect) : (old.updated new).isTrip = old.isTrip := by
  rcases old.updated_eq_or_cap new with h | ⟨v, d, w, d', h, h'⟩
  · rw [h]
  · rw [h', h]; rfl

/-- The update of one entry of a reason set by a request (R3). -/
def Reason.updatedBy (e x : Reason) : Reason :=
  if x.source = e.source then { x with effect := x.effect.updated e.effect } else x

theorem insertEntry_of_hasSource {rs : List Reason} {e : Reason} (h : hasSource rs e.source = true) :
    insertEntry rs e = rs.map e.updatedBy := by
  simp only [insertEntry, h, if_true]
  rfl

@[simp] theorem Reason.updatedBy_source (e x : Reason) : (e.updatedBy x).source = x.source := by
  unfold Reason.updatedBy; split <;> rfl

@[simp] theorem Reason.updatedBy_isCap (e x : Reason) : (e.updatedBy x).effect.isCap = x.effect.isCap := by
  unfold Reason.updatedBy; split <;> simp

@[simp] theorem Reason.updatedBy_isStop (e x : Reason) : (e.updatedBy x).effect.isStop = x.effect.isStop := by
  unfold Reason.updatedBy; split <;> simp

@[simp] theorem Reason.updatedBy_isTrip (e x : Reason) : (e.updatedBy x).effect.isTrip = x.effect.isTrip := by
  unfold Reason.updatedBy; split <;> simp

/-- An update changes neither an entry's source nor the kind of its effect, so it changes no permit state. -/
theorem permitOf_map_updatedBy (e : Reason) (rs : List Reason) : permitOf (rs.map e.updatedBy) = permitOf rs := by
  simp [permitOf, List.any_map, Function.comp_def]

theorem primaryCause_map_updatedBy (e : Reason) (rs : List Reason) :
    primaryCause (rs.map e.updatedBy) = primaryCause rs := by
  simp [primaryCause, List.find?_map, Function.comp_def]

/-- An update keeps the permit state, so that it does nothing beyond the reason set. -/
theorem insertReason_of_hasSource {m : Motion} {e : Reason} {s : State}
    (h : hasSource (s.records.get m).reasons e.source = true) :
    insertReason m e s = s.setReasons m ((s.records.get m).reasons.map e.updatedBy) := by
  rw [insertReason, insertEntry_of_hasSource h, replaceReasons, permitOf_map_updatedBy, State.permit_def, if_pos rfl]

theorem permitOf_of_not_trip {rs : List Reason} (h : ¬∃ e ∈ rs, e.effect = .trip) :
    permitOf rs = if rs.any (fun e => e.effect.isStop) then .stopped else if rs.isEmpty then .free else .capped := by
  have hno : rs.any (fun e => e.effect.isTrip) = false := by
    simpa [Effect.isTrip_iff] using h
  simp [permitOf, hno]

theorem permitOf_stopped {rs : List Reason} (ht : ¬∃ e ∈ rs, e.effect = .trip) (hs : ∃ e ∈ rs, e.effect = .stop) :
    permitOf rs = .stopped := by
  have hany : rs.any (fun e => e.effect.isStop) = true := by
    simpa [Effect.isStop_iff] using hs
  rw [permitOf_of_not_trip ht, if_pos hany]

theorem permitOf_capped {rs : List Reason} (ht : ¬∃ e ∈ rs, e.effect = .trip) (hs : ¬∃ e ∈ rs, e.effect = .stop)
    (hne : rs ≠ []) : permitOf rs = .capped := by
  have hno : rs.any (fun e => e.effect.isStop) = false := by
    simpa [Effect.isStop_iff] using hs
  simp [permitOf_of_not_trip ht, hno, hne]

/-! ### The records at a reset (R10) -/

theorem State.fresh_record (cause : ResetCause) (n : Fin 16) (m : Motion) :
    ∃ is, (State.fresh cause n).records.get m = Record.fresh is := by
  cases m <;> exact ⟨_, rfl⟩

/-- NOT_RUNNING trips, whatever stands behind it. -/
theorem permitOf_fresh (is : List Interlock) : permitOf (Record.fresh is).reasons = .tripped :=
  (permitOf_tripped_iff _).mpr ⟨⟨.notRunning, .trip⟩, List.mem_cons_self, rfl⟩

/-- NOT_RUNNING is the oldest entry, so that no entry stands before it. -/
theorem primaryCause_fresh (is : List Interlock) : primaryCause (Record.fresh is).reasons = some .notRunning :=
  (primaryCause_eq_some_iff _ _).mpr ⟨[], ⟨.notRunning, .trip⟩, _, rfl, rfl, .inr rfl, nofun⟩

theorem effectiveCap_fresh (is : List Interlock) (d : Dir) : effectiveCap (Record.fresh is) d = 0 := by
  have hzone : (Record.fresh is).zoneCap d = 0 := by cases d <;> rfl
  exact Nat.le_zero.mp (hzone ▸ effectiveCap_le_zoneCap _ d)

/-- Settles O5, from what every fresh record has in common. -/
theorem resetRecordsStandAsStated : Obligations.ResetRecordsStandAsStated := by
  intro cause n
  refine ⟨rfl, rfl, rfl, rfl, fun m => ?_⟩
  obtain ⟨is, hfresh⟩ := State.fresh_record cause n m
  rw [State.permit_def, hfresh]
  exact ⟨permitOf_fresh is, primaryCause_fresh is, rfl, rfl, effectiveCap_fresh is .pos, effectiveCap_fresh is .neg⟩

/-- Settles O9: the effective cap is the least of a list under the limit of the zone cap and 1000, and the sample clamps
its reference between the two caps. -/
theorem effectiveCapIsTheLeast : Obligations.EffectiveCapIsTheLeast := by
  constructor
  · intro m s
    have hbounds := sampleChannel_r_bounds ((takeZoneCaps m s).channels.get m) ((takeZoneCaps m s).permit m)
      (effectiveCap ((takeZoneCaps m s).records.get m) .pos) (effectiveCap ((takeZoneCaps m s).records.get m) .neg)
      (takeZoneCaps m s).links.cab.lost (decide (((takeZoneCaps m s).brakes.get m).state = .released))
    exact ⟨congrArg Record.zonePos (takeZoneCaps_record m s), congrArg Record.zoneNeg (takeZoneCaps_record m s), hbounds⟩
  · intro r d
    exact ⟨effectiveCap_le_zoneCap r d, effectiveCap_le_thousand r d,
      fun _ he _ _ hv hd => effectiveCap_le_covering he hv hd, effectiveCap_attained r d⟩

/-- Settles O10: an update touches neither sources nor kinds of effect, and the oldest halting entry is the first that
is no CAP. -/
theorem primaryCauseIsTheOldestHalt : Obligations.PrimaryCauseIsTheOldestHalt := by
  refine ⟨fun m e s h => ?_, fun m s => ⟨?_, ?_, ?_, ?_⟩,
    fun rs => ⟨primaryCause_eq_none_iff rs, primaryCause_eq_some_iff rs⟩⟩
  · rw [insertReason_of_hasSource h, State.reasons_setReasons, if_pos rfl, primaryCause_map_updatedBy]
  · exact (permitOf_tripped_iff _).mpr
  · exact permitOf_stopped
  · exact permitOf_capped
  · intro hempty
    rw [State.permit_def, hempty]
    rfl

end Sys2Proof.Machine
end

section
/-! SUPPORT. The zone caps: a table's zones by place (R11, R12), the zones reached from a position (R17, R18), the least cap
and the least candidate (R16, R19), and the phase that contains a cam's angle (R20, R110, R111). -/

namespace Sys2Proof.Machine
open Sys2Proof

/-! ### A table's zones by place (R11, R12) -/

theorem withNext_getElem? (wrap : Nat) (zs : List Zone) (i : Nat) :
    (withNext wrap zs)[i]? = zs[i]?.map (fun z => (z, (zs[i + 1]?.map Zone.start).getD wrap)) := by
  induction zs generalizing i with
  | nil => simp [withNext]
  | cons z zs ih =>
    cases zs with
    | nil => cases i <;> simp [withNext]
    | cons z' rest =>
      cases i with
      | zero => simp [withNext]
      | succ i => simpa [withNext] using ih i

/-- The zones of a table with their ends, in the form of the axis (R11, R12). -/
def boundedZones (circular : Bool) (zs : List Zone) : List (Zone × Nat) :=
  if circular then circularZones zs else linearZones zs

theorem boundedZones_getElem? (circular : Bool) (zs : List Zone) (i : Nat) :
    (boundedZones circular zs)[i]? = zs[i]?.map (fun z => (z, zoneEnd circular zs i)) := by
  cases circular with
  | false =>
    simp only [boundedZones, linearZones, zoneEnd, Bool.false_eq_true, if_false, List.getElem?_map,
      withNext_getElem?, Option.map_map]
    cases zs[i + 1]? <;> rfl
  | true =>
    simp only [boundedZones, circularZones, zoneEnd, if_true, List.getElem?_map, withNext_getElem?, Option.map_map,
      List.head?_eq_getElem?]
    cases zs[i + 1]? <;> rfl

theorem mem_boundedZones_iff (circular : Bool) (zs : List Zone) (z : Zone) (last : Nat) :
    (z, last) ∈ boundedZones circular zs ↔ ∃ i, zs[i]? = some z ∧ last = zoneEnd circular zs i := by
  simp only [List.mem_iff_getElem?, boundedZones_getElem?, Option.map_eq_some_iff, Prod.mk.injEq]
  constructor
  · rintro ⟨i, z', hz', rfl, hlast⟩
    exact ⟨i, hz', hlast.symm⟩
  · rintro ⟨i, hz, hlast⟩
    exact ⟨i, z, hz, rfl, hlast.symm⟩

/-! ### Held tables (R11, R12) -/

/-- The largest position of the axis of a table. -/
def topOf (circular : Bool) : Nat := if circular then 3599 else 9999

theorem ZonesHeld.ne_nil {circular : Bool} {zs : List Zone} (h : ZonesHeld circular zs) : zs ≠ [] :=
  List.length_pos_iff.mp h.count.1

theorem ZonesHeld.cap_le {circular : Bool} {zs : List Zone} (h : ZonesHeld circular zs) {z : Zone} (hz : z ∈ zs)
    (d : Dir) : z.cap d ≤ 1000 := by
  obtain ⟨hpos, hneg⟩ := h.caps z hz
  cases d
  · exact hpos
  · exact hneg

theorem ZonesHeld.start_lt {circular : Bool} {zs : List Zone} (h : ZonesHeld circular zs) {i j : Nat} {a b : Zone}
    (ha : zs[i]? = some a) (hb : zs[j]? = some b) (hij : i < j) : a.start < b.start := by
  obtain ⟨hi, rfl⟩ := List.getElem?_eq_some_iff.mp ha
  obtain ⟨hj, rfl⟩ := List.getElem?_eq_some_iff.mp hb
  exact List.pairwise_iff_getElem.mp h.order i j hi hj hij

theorem ZonesHeld.head_start_le {circular : Bool} {zs : List Zone} (h : ZonesHeld circular zs) {i : Nat} {a b : Zone}
    (ha : zs[0]? = some a) (hb : zs[i]? = some b) : a.start ≤ b.start := by
  cases i with
  | zero => exact Nat.le_of_eq (congrArg Zone.start (Option.some.inj (ha.symm.trans hb)))
  | succ i => exact Nat.le_of_lt (h.start_lt ha hb (Nat.succ_pos i))

theorem ZonesHeld.start_le {circular : Bool} {zs : List Zone} (h : ZonesHeld circular zs) {i : Nat} {z : Zone}
    (hz : zs[i]? = some z) : z.start ≤ topOf circular :=
  h.starts z (List.mem_of_getElem? hz)

theorem zoneEnd_linear_of_some {zs : List Zone} {i : Nat} {z : Zone} (h : zs[i + 1]? = some z) :
    zoneEnd false zs i = z.start - 1 := by
  simp [zoneEnd, h]

theorem zoneEnd_linear_of_none {zs : List Zone} {i : Nat} (h : zs[i + 1]? = none) : zoneEnd false zs i = 9999 := by
  simp [zoneEnd, h]

theorem zoneEnd_circular_of_some {zs : List Zone} {i : Nat} {z : Zone} (h : zs[i + 1]? = some z) :
    zoneEnd true zs i = (z.start + 3599) % 3600 := by
  simp [zoneEnd, h]

theorem zoneEnd_circular_of_none {zs : List Zone} {i : Nat} {z : Zone} (h : zs[i + 1]? = none) (hz : zs[0]? = some z) :
    zoneEnd true zs i = (z.start + 3599) % 3600 := by
  simp [zoneEnd, h, hz]

theorem zoneEnd_circular_le (zs : List Zone) (i : Nat) : zoneEnd true zs i ≤ 3599 := by
  simp only [zoneEnd, if_true]
  omega

/-- No linear zone wraps (R11). -/
theorem ZonesHeld.start_le_zoneEnd {zs : List Zone} (h : ZonesHeld false zs) {i : Nat} {z : Zone}
    (hz : zs[i]? = some z) : z.start ≤ zoneEnd false zs i := by
  cases hnext : zs[i + 1]? with
  | none => exact zoneEnd_linear_of_none hnext ▸ h.start_le hz
  | some z' =>
    have hlt := h.start_lt hz hnext (Nat.lt_succ_self i)
    rw [zoneEnd_linear_of_some hnext]
    omega

/-- From the first start on, a position lies between the start of some zone and the next start, if there is one. -/
theorem exists_start_le_lt_next (x : Nat) : ∀ (zs : List Zone), (∃ z, zs[0]? = some z ∧ z.start ≤ x) →
    ∃ i z, zs[i]? = some z ∧ z.start ≤ x ∧ ∀ z', zs[i + 1]? = some z' → x < z'.start
  | [], h => by simp at h
  | [z], h => ⟨0, z, rfl, by simpa using h, by simp⟩
  | z :: z' :: rest, h => by
    by_cases hx : x < z'.start
    · exact ⟨0, z, rfl, by simpa using h, by simpa using hx⟩
    · obtain ⟨i, w, hw, hle, hnext⟩ := exists_start_le_lt_next x (z' :: rest) ⟨z', rfl, Nat.not_lt.mp hx⟩
      exact ⟨i + 1, w, by simpa using hw, hle, by simpa using hnext⟩

theorem ZonesHeld.exists_contains_linear {zs : List Zone} (h : ZonesHeld false zs) {x : Nat} (hx : x ≤ 9999) :
    ∃ i z, zs[i]? = some z ∧ zoneContains z.start (zoneEnd false zs i) x := by
  have hfirst : ∃ z, zs[0]? = some z ∧ z.start ≤ x := by
    have hzero := h.first rfl
    rw [List.head?_eq_getElem?, Option.map_eq_some_iff] at hzero
    obtain ⟨z, hz, hstart⟩ := hzero
    exact ⟨z, hz, hstart ▸ Nat.zero_le x⟩
  obtain ⟨i, z, hz, hle, hlt⟩ := exists_start_le_lt_next x zs hfirst
  have hend : x ≤ zoneEnd false zs i := by
    cases hnext : zs[i + 1]? with
    | none => exact zoneEnd_linear_of_none hnext ▸ hx
    | some z' => exact zoneEnd_linear_of_some hnext ▸ Nat.le_sub_one_of_lt (hlt z' hnext)
  exact ⟨i, z, hz, by rw [zoneContains, if_pos (Nat.le_trans hle hend)]; exact ⟨hle, hend⟩⟩

/-- Below the first start an angle lies in the last zone, which wraps; from there on as on a line (R12). -/
theorem ZonesHeld.exists_contains_circular {zs : List Zone} (h : ZonesHeld true zs) {x : Nat} (hx : x ≤ 3599) :
    ∃ i z, zs[i]? = some z ∧ zoneContains z.start (zoneEnd true zs i) x := by
  have hlength : 0 < zs.length := h.count.1
  have hhead : zs[0]? = some zs[0] := List.getElem?_eq_getElem hlength
  by_cases hfirst : zs[0].start ≤ x
  · obtain ⟨i, z, hz, hle, hlt⟩ := exists_start_le_lt_next x zs ⟨_, hhead, hfirst⟩
    refine ⟨i, z, hz, ?_⟩
    unfold zoneContains
    cases hnext : zs[i + 1]? with
    | none =>
      have hleast := h.head_start_le hhead hz
      rw [zoneEnd_circular_of_none hnext hhead]
      split <;> omega
    | some z' =>
      have hlt' := hlt z' hnext
      have htop : z'.start ≤ 3599 := h.start_le hnext
      rw [zoneEnd_circular_of_some hnext]
      split <;> omega
  · have hlast : zs[zs.length - 1]? = some zs[zs.length - 1] := List.getElem?_eq_getElem (by omega)
    have hnone : zs[zs.length - 1 + 1]? = none := List.getElem?_eq_none (by omega)
    have hle := h.head_start_le hhead hlast
    have htop : zs[0].start ≤ 3599 := h.start_le hhead
    refine ⟨_, _, hlast, ?_⟩
    unfold zoneContains
    rw [zoneEnd_circular_of_none hnone hhead]
    split <;> omega

theorem ZonesHeld.exists_contains {circular : Bool} {zs : List Zone} (h : ZonesHeld circular zs) {x : Nat}
    (hx : x ≤ topOf circular) : ∃ i z, zs[i]? = some z ∧ zoneContains z.start (zoneEnd circular zs i) x := by
  cases circular
  · exact h.exists_contains_linear hx
  · exact h.exists_contains_circular hx

/-! ### The distance at which a zone is reached (R17, R18) -/

/-- The distance of a zone in the form of the axis (R17, R18). -/
def reachDistance (circular : Bool) (lookahead x : Nat) (d : Dir) (z : Zone × Nat) : Option Nat :=
  if circular then circularDistance lookahead x d z else linearDistance lookahead x d z

theorem linearDistance_eq_some_iff {z : Zone} {last : Nat} (hle : z.start ≤ last) (lookahead x : Nat) (d : Dir)
    (dist : Nat) :
    linearDistance lookahead x d (z, last) = some dist ↔ ZoneReached false lookahead x d z.start last dist := by
  simp only [linearDistance, ZoneReached, zoneContains, hle, if_true]
  by_cases hin : z.start ≤ x ∧ x ≤ last
  · simp [hin, eq_comm]
  · cases d <;> simp only [hin, if_false, Option.ite_none_right_eq_some, Option.some.injEq, false_and, false_or,
      not_false_iff, true_and] <;> omega

theorem angleDiff_cast (a b : Nat) : (angleDiff a b : Int) = ((a : Int) - b) % 3600 := by
  unfold angleDiff
  omega

theorem circleContains_iff {z : Zone} {last x : Nat} (hstart : z.start ≤ 3599) (hlast : last ≤ 3599) (hx : x ≤ 3599) :
    circleContains x (z, last) = true ↔ zoneContains z.start last x := by
  rw [circleContains, decide_eq_true_eq]
  simp only [angleDiff, zoneContains]
  split <;> omega

theorem circularDistance_eq_some_iff {z : Zone} {last x : Nat} (hstart : z.start ≤ 3599) (hlast : last ≤ 3599)
    (hx : x ≤ 3599) (lookahead : Nat) (d : Dir) (dist : Nat) :
    circularDistance lookahead x d (z, last) = some dist ↔ ZoneReached true lookahead x d z.start last dist := by
  have hcontains := circleContains_iff hstart hlast hx
  unfold circularDistance ZoneReached
  by_cases hin : zoneContains z.start last x
  · rw [if_pos (hcontains.mpr hin)]
    simp only [hin, Option.some.injEq, true_and, not_true, false_and, or_false]
    exact eq_comm
  · have hahead := angleDiff_cast z.start x
    have hbehind := angleDiff_cast x last
    rw [if_neg (mt hcontains.mp hin)]
    cases d <;> simp only [hin, Option.ite_none_right_eq_some, Option.some.injEq, false_and, false_or, not_false_iff,
      true_and] <;> omega

theorem ZonesHeld.reachDistance_eq_some_iff {circular : Bool} {zs : List Zone} (h : ZonesHeld circular zs) {i : Nat}
    {z : Zone} (hz : zs[i]? = some z) {x : Nat} (hx : x ≤ topOf circular) (lookahead : Nat) (d : Dir) (dist : Nat) :
    reachDistance circular lookahead x d (z, zoneEnd circular zs i) = some dist ↔
      ZoneReached circular lookahead x d z.start (zoneEnd circular zs i) dist := by
  cases circular
  · exact linearDistance_eq_some_iff (h.start_le_zoneEnd hz) lookahead x d dist
  · exact circularDistance_eq_some_iff (h.start_le hz) (zoneEnd_circular_le zs i) hx lookahead d dist

/-! ### The least cap and the least candidate (R16, R19) -/

theorem leastCap_le {zs : List Zone} {z : Zone} (hz : z ∈ zs) (d : Dir) : leastCap d zs ≤ z.cap d :=
  foldl_min_le_of_mem _ (List.mem_map_of_mem hz)

theorem leastCap_attained {circular : Bool} {zs : List Zone} (h : ZonesHeld circular zs) (d : Dir) :
    ∃ z ∈ zs, leastCap d zs = z.cap d := by
  rcases foldl_min_eq_limit_or_mem (zs.map (fun z => z.cap d)) 1000 with hlimit | hmem
  · obtain ⟨z, hz⟩ := List.exists_mem_of_ne_nil zs h.ne_nil
    exact ⟨z, hz, Nat.le_antisymm (leastCap_le hz d) (Nat.le_trans (h.cap_le hz d) (Nat.le_of_eq hlimit.symm))⟩
  · obtain ⟨z, hz, hcap⟩ := List.mem_map.mp hmem
    exact ⟨z, hz, hcap.symm⟩

theorem leastCandidate_le {slope : Nat} {d : Dir} {distance : Zone × Nat → Option Nat} {zs : List (Zone × Nat)}
    {z : Zone × Nat} {dist : Nat} (hz : z ∈ zs) (hdist : distance z = some dist) :
    leastCandidate slope d distance zs ≤ z.1.cap d + dist * slope :=
  foldl_min_le_of_mem _ (List.mem_filterMap.mpr ⟨z, hz, by simp [hdist]⟩)

theorem leastCandidate_eq_thousand_or_attained (slope : Nat) (d : Dir) (distance : Zone × Nat → Option Nat)
    (zs : List (Zone × Nat)) :
    leastCandidate slope d distance zs = 1000 ∨
      ∃ z ∈ zs, ∃ dist, distance z = some dist ∧ leastCandidate slope d distance zs = z.1.cap d + dist * slope := by
  rcases foldl_min_eq_limit_or_mem
    (zs.filterMap (fun z => (distance z).map (fun dist => z.1.cap d + dist * slope))) 1000 with hlimit | hmem
  · exact .inl hlimit
  · obtain ⟨z, hz, hcand⟩ := List.mem_filterMap.mp hmem
    obtain ⟨dist, hdist, hvalue⟩ := Option.map_eq_some_iff.mp hcand
    exact .inr ⟨z, hz, dist, hdist, hvalue.symm⟩

/-- A candidate is no less than its zone's cap, so the least candidate is no less than the least cap. -/
theorem leastCap_le_leastCandidate (slope : Nat) (d : Dir) (distance : Zone × Nat → Option Nat) {zs : List Zone}
    {bounded : List (Zone × Nat)} (hsub : ∀ z ∈ bounded, z.1 ∈ zs) :
    leastCap d zs ≤ leastCandidate slope d distance bounded := by
  rcases leastCandidate_eq_thousand_or_attained slope d distance bounded with h | ⟨z, hz, dist, -, h⟩
  · exact h ▸ foldl_min_le_limit _ _
  · exact h ▸ Nat.le_trans (leastCap_le (hsub z hz) d) (Nat.le_add_right _ _)

/-! ### The three forms of a zone cap (R15) -/

theorem zoneCapOf_nil (circular : Bool) (p : AxisParams) (t : Track) (d : Dir) : zoneCapOf circular [] p t d = 0 := rfl

theorem zoneCapOf_unreferenced {circular : Bool} {zs : List Zone} {p : AxisParams} {t : Track} (d : Dir) (hne : zs ≠ [])
    (ht : t.referenced = false) : zoneCapOf circular zs p t d = leastCap d zs := by
  simp [zoneCapOf, hne, ht]

theorem zoneCapOf_referenced {circular : Bool} {zs : List Zone} {p : AxisParams} {t : Track} (d : Dir) (hne : zs ≠ [])
    (ht : t.referenced = true) :
    zoneCapOf circular zs p t d =
      leastCandidate p.slope d (reachDistance circular p.lookahead t.pos d) (boundedZones circular zs) := by
  cases circular <;> simp only [zoneCapOf, hne, ht, List.isEmpty_iff, if_true, if_false] <;> rfl

theorem ZonesHeld.zoneCapOf_le_candidate {circular : Bool} {zs : List Zone} (h : ZonesHeld circular zs) {p : AxisParams}
    {t : Track} {d : Dir} (ht : t.referenced = true) (hpos : t.pos ≤ topOf circular) {i dist : Nat} {z : Zone}
    (hz : zs[i]? = some z)
    (hreached : ZoneReached circular p.lookahead t.pos d z.start (zoneEnd circular zs i) dist) :
    zoneCapOf circular zs p t d ≤ z.cap d + dist * p.slope := by
  rw [zoneCapOf_referenced d h.ne_nil ht]
  exact leastCandidate_le ((mem_boundedZones_iff circular zs z _).mpr ⟨i, hz, rfl⟩)
    ((h.reachDistance_eq_some_iff hz hpos p.lookahead d dist).mpr hreached)

/-- The least candidate is attained: the zone that contains the position is reached at 0, and its cap is at most 1000. -/
theorem ZonesHeld.zoneCapOf_attained {circular : Bool} {zs : List Zone} (h : ZonesHeld circular zs) (p : AxisParams)
    {t : Track} (d : Dir) (ht : t.referenced = true) (hpos : t.pos ≤ topOf circular) :
    ∃ i dist z, (zs[i]? = some z ∧
      ZoneReached circular p.lookahead t.pos d z.start (zoneEnd circular zs i) dist) ∧
      zoneCapOf circular zs p t d = z.cap d + dist * p.slope := by
  rcases leastCandidate_eq_thousand_or_attained p.slope d (reachDistance circular p.lookahead t.pos d)
    (boundedZones circular zs) with hlimit | ⟨⟨z, last⟩, hmem, dist, hdist, hvalue⟩
  · obtain ⟨i, z, hz, hcontains⟩ := h.exists_contains hpos
    have hreached : ZoneReached circular p.lookahead t.pos d z.start (zoneEnd circular zs i) 0 := .inl ⟨hcontains, rfl⟩
    have hle := h.zoneCapOf_le_candidate ht hpos hz hreached
    have hcap := h.cap_le (List.mem_of_getElem? hz) d
    rw [← zoneCapOf_referenced d h.ne_nil ht] at hlimit
    exact ⟨i, 0, z, ⟨hz, hreached⟩, by omega⟩
  · obtain ⟨i, hz, rfl⟩ := (mem_boundedZones_iff circular zs z last).mp hmem
    rw [zoneCapOf_referenced d h.ne_nil ht]
    exact ⟨i, dist, z, ⟨hz, (h.reachDistance_eq_some_iff hz hpos p.lookahead d dist).mp hdist⟩, hvalue⟩

theorem ZonesHeld.zoneCapOf_unreferenced_le {circular : Bool} {zs : List Zone} (h : ZonesHeld circular zs)
    (p : AxisParams) (t : Track) (d : Dir) :
    zoneCapOf circular zs p { t with referenced := false } d ≤ zoneCapOf circular zs p { t with referenced := true } d := by
  rw [zoneCapOf_unreferenced d h.ne_nil rfl, zoneCapOf_referenced d h.ne_nil rfl]
  refine leastCap_le_leastCandidate p.slope d _ (fun ⟨z, last⟩ hmem => ?_)
  obtain ⟨i, hz, -⟩ := (mem_boundedZones_iff circular zs z last).mp hmem
  exact List.mem_of_getElem? hz

/-! ### The phase of an angle (R20, R110, R111) -/

theorem Phase.code_lt (ph : Phase) : ph.code < 6 := by cases ph <;> decide

/-- The place of a phase in the table, counted from RAISED (R110). -/
def Phase.place (ph : Phase) : Fin 6 := ⟨ph.code, ph.code_lt⟩

theorem PhaseTable.rows_place (t : PhaseTable) (ph : Phase) : t.rows[ph.place.val]? = some (t.row ph) := by
  cases ph <;> rfl

theorem progressOf_cast (t : PhaseTable) (angle : Nat) :
    (progressOf t angle : Int) = ((angle : Int) - t.raised.bound) % 3600 := by
  unfold progressOf
  omega

theorem progressOf_first (t : PhaseTable) : progressOf t t.raised.bound = 0 := by
  have hcast := progressOf_cast t t.raised.bound
  omega

/-- As long as the turn is not complete, the progress of a boundary is that of the one before it plus the length between
them. -/
theorem progressOf_next (t : PhaseTable) (first next : Nat)
    (h : (progressOf t first : Int) + ((next : Int) - first) % 3600 < 3600) :
    (progressOf t next : Int) = progressOf t first + ((next : Int) - first) % 3600 := by
  have hfirst := progressOf_cast t first
  have hnext := progressOf_cast t next
  omega

/-- A phase contains the angles whose progress runs from its boundary's through its length. -/
theorem sub_bound_lt_of_progress (t : PhaseTable) (first next : Nat) {angle : Nat}
    (hfrom : progressOf t first ≤ progressOf t angle)
    (hto : (progressOf t angle : Int) < progressOf t first + ((next : Int) - first) % 3600) :
    ((angle : Int) - first) % 3600 < ((next : Int) - first) % 3600 := by
  have hfirst := progressOf_cast t first
  have hangle := progressOf_cast t angle
  omega

theorem PhaseTable.turn_eq (t : PhaseTable) :
    t.turn = [((t.lowering.bound : Int) - t.raised.bound) % 3600, ((t.lifting.bound : Int) - t.lowering.bound) % 3600,
      ((t.stepping.bound : Int) - t.lifting.bound) % 3600, ((t.settingDown.bound : Int) - t.stepping.bound) % 3600,
      ((t.raising.bound : Int) - t.settingDown.bound) % 3600, ((t.raised.bound : Int) - t.raising.bound) % 3600] := rfl

/-- The phase that an angle is given contains it: since the six lengths make one turn, each boundary's progress is the sum
of the lengths before it, and each phase runs from its boundary's progress to the next one's (R110, R111). -/
theorem PhasesHeld.contains_phaseAt {t : PhaseTable} (h : PhasesHeld t) (angle : Nat) :
    PhaseContains t (phaseAt t angle).place angle := by
  have hlengths := h.lengths
  have htotal := h.total
  simp only [t.turn_eq, List.forall_mem_cons, List.sum_cons, List.sum_nil] at hlengths htotal
  obtain ⟨h0, h1, h2, h3, h4, h5, -⟩ := hlengths
  have hraised := progressOf_first t
  have hlowering := progressOf_next t t.raised.bound t.lowering.bound (by omega)
  have hlifting := progressOf_next t t.lowering.bound t.lifting.bound (by omega)
  have hstepping := progressOf_next t t.lifting.bound t.stepping.bound (by omega)
  have hsettingDown := progressOf_next t t.stepping.bound t.settingDown.bound (by omega)
  have hraising := progressOf_next t t.settingDown.bound t.raising.bound (by omega)
  have hangle : progressOf t angle < 3600 := Nat.mod_lt _ (by decide)
  unfold phaseAt phaseOfProgress
  repeat' split
  · exact sub_bound_lt_of_progress t t.raised.bound t.lowering.bound (by omega) (by omega)
  · exact sub_bound_lt_of_progress t t.lowering.bound t.lifting.bound (by omega) (by omega)
  · exact sub_bound_lt_of_progress t t.lifting.bound t.stepping.bound (by omega) (by omega)
  · exact sub_bound_lt_of_progress t t.stepping.bound t.settingDown.bound (by omega) (by omega)
  · exact sub_bound_lt_of_progress t t.settingDown.bound t.raising.bound (by omega) (by omega)
  · exact sub_bound_lt_of_progress t t.raising.bound t.raised.bound (by omega) (by omega)

/-! ### The zone cap of WALK (R20) -/

theorem zoneCap_walk_of_none {s : State} (h : s.walk.table = none) (d : Dir) : zoneCap s .walk d = 0 := by
  simp [zoneCap, walkZoneCap, h]

theorem zoneCap_walk_of_unreferenced {s : State} {t : PhaseTable} (h : s.walk.table = some t)
    (hcam : s.tracker.axes.camL.referenced = false ∨ s.tracker.axes.camR.referenced = false) :
    zoneCap s .walk .pos = s.machine.creepCap ∧ zoneCap s .walk .neg = 0 := by
  rcases hcam with hcam | hcam <;> simp [zoneCap, walkZoneCap, h, hcam]

theorem zoneCap_walk_of_referenced {s : State} {t : PhaseTable} (h : s.walk.table = some t)
    (hl : s.tracker.axes.camL.referenced = true) (hr : s.tracker.axes.camR.referenced = true) (d : Dir) :
    zoneCap s .walk d = min ((t.row (phaseAt t s.tracker.axes.camL.pos)).cap d)
      ((t.row (phaseAt t s.tracker.axes.camR.pos)).cap d) := by
  simp [zoneCap, walkZoneCap, h, hl, hr]

/-- Settles O13: the three forms of a zone cap, each with its own lemmas, the tables of the three axes, and the rows of the
phases that contain the two cams' angles. The premises that the cams' angles lie on the circle are not used: a progress is
taken modulo 3600. -/
theorem zoneCapsFollowTheTables : Obligations.ZoneCapsFollowTheTables := by
  refine ⟨fun circular zs p t d h => ⟨zoneCapOf_nil circular p t d, ?_, ?_, h.zoneCapOf_unreferenced_le p t d⟩,
    fun s d => ⟨rfl, rfl, rfl⟩, fun s d => ⟨fun hnone => zoneCap_walk_of_none hnone d,
      fun t htable => ⟨zoneCap_walk_of_unreferenced htable, ?_⟩⟩⟩
  · intro ht
    rw [zoneCapOf_unreferenced d h.ne_nil ht]
    exact ⟨fun z hz => leastCap_le hz d, leastCap_attained h d⟩
  · intro ht hpos
    exact ⟨fun i dist z ⟨hz, hreached⟩ => h.zoneCapOf_le_candidate ht hpos hz hreached,
      h.zoneCapOf_attained p d ht hpos⟩
  · intro hl hr hphases _ _
    exact ⟨_, _, _, _, hphases.contains_phaseAt _, hphases.contains_phaseAt _, t.rows_place _, t.rows_place _,
      zoneCap_walk_of_referenced htable hl hr d⟩

end Sys2Proof.Machine
end

section
/-! SUPPORT. The delta of an arrival (R29), and what the count step and the hand-on make of an accepted and of a rejected
one (R27, R30, R32, R33). -/

namespace Sys2Proof.Machine
open Sys2Proof

/-! ### The delta (R29) -/

theorem rawDelta_normal_congruent {p : AxisParams} (h : p.polarity = .normal) (last new : Nat) :
    (rawDelta p last new - ((new : Int) - last)) % 65536 = 0 := by
  simp only [rawDelta, h]
  split <;> omega

theorem rawDelta_normal_bounds {p : AxisParams} (h : p.polarity = .normal) (last new : Nat) :
    -32768 ≤ rawDelta p last new ∧ rawDelta p last new ≤ 32767 := by
  simp only [rawDelta, h]
  split <;> omega

theorem rawDelta_inverted {p : AxisParams} (h : p.polarity = .inverted) (last new : Nat) :
    rawDelta p last new = -rawDelta { p with polarity := .normal } last new := by
  simp only [rawDelta, h]

/-! ### The test of a delta (R30) -/

theorem deltaAccepted_of_le {p : AxisParams} {delta : Int} (h : delta.natAbs ≤ p.maxDelta) :
    deltaAccepted p delta = true := decide_eq_true h

theorem deltaAccepted_of_lt {p : AxisParams} {delta : Int} (h : p.maxDelta < delta.natAbs) :
    deltaAccepted p delta = false := decide_eq_false (Nat.not_le.mpr h)

/-! ### The accumulator (R32, R33) -/

/-- An accepted delta saturates on a rope axis (R32) and wraps at N on a circular one (R33). -/
@[simp] theorem acceptDelta_acc (a : Axis) (p : AxisParams) (delta : Int) (t : Track) :
    (acceptDelta a p delta t).acc = if Axis.isRope a then limitInt (-2147483648) 2147483647 (t.acc + delta)
      else (t.acc + delta) % p.n := by
  unfold acceptDelta
  split <;> rfl

@[simp] theorem rejectDelta_acc (t : Track) : (rejectDelta t).acc = t.acc := by
  unfold rejectDelta
  repeat' split
  all_goals rfl

/-! ### The count step and the hand-on with counts based (R27, R38) -/

section CountsBased
variable {p : AxisParams} {raw : Nat} {t : Track}

theorem countStep_of_accepted (a : Axis) (h : deltaAccepted p (rawDelta p t.lastRaw raw) = true) :
    countStep a p true raw t = { acceptDelta a p (rawDelta p t.lastRaw raw) t with lastRaw := raw } := by
  simp [countStep, h]

theorem countStep_of_rejected (a : Axis) (h : deltaAccepted p (rawDelta p t.lastRaw raw) = false) :
    countStep a p true raw t = { rejectDelta t with lastRaw := raw } := by
  simp [countStep, h]

theorem handedDelta_of_accepted (h : deltaAccepted p (rawDelta p t.lastRaw raw) = true) :
    handedDelta p true raw t = some (rawDelta p t.lastRaw raw) := by
  simp [handedDelta, h]

theorem handedDelta_of_rejected (h : deltaAccepted p (rawDelta p t.lastRaw raw) = false) :
    handedDelta p true raw t = none := by
  simp [handedDelta, h]

end CountsBased

/-- Settles O14: an accepted and a rejected delta, each with its count step and hand-on, then the delta under each polarity.
The premises that both counts are below 65536 are not used: the difference is taken modulo 65536. -/
theorem deltaIsTheSignedDifference : Obligations.DeltaIsTheSignedDifference := by
  refine ⟨fun a p raw t => ⟨fun hle => ?accepted, fun hlt => ?rejected⟩, fun p last new _ _ =>
    ⟨fun hnormal => ⟨rawDelta_normal_congruent hnormal last new, rawDelta_normal_bounds hnormal last new⟩,
      fun hinverted => rawDelta_inverted hinverted last new⟩⟩
  case accepted =>
    have haccepted := deltaAccepted_of_le hle
    refine ⟨?_, handedDelta_of_accepted haccepted⟩
    rw [countStep_of_accepted a haccepted]
    exact acceptDelta_acc a p _ t
  case rejected =>
    have hrejected := deltaAccepted_of_lt hlt
    refine ⟨?_, handedDelta_of_rejected hrejected⟩
    rw [countStep_of_rejected a hrejected]
    exact rejectDelta_acc t

end Sys2Proof.Machine
end

section
/-! SUPPORT. The shaping chain: the deadband's two ends (R50), the rounding and saturation of the gain and the filter (R51,
R52), the rate limiter in the cases of R57, and what one sample leaves in each item of its channel (R47 to R61). -/

namespace Sys2Proof.Machine
open Sys2Proof

/-! ### Signs and the halting permit states (R7) -/

theorem signInt_eq_sign (x : Int) : signInt x = x.sign := by
  unfold signInt
  rcases Int.lt_trichotomy x 0 with hneg | rfl | hpos
  · rw [if_pos hneg, Int.sign_eq_neg_one_of_neg hneg]
  · rfl
  · rw [if_neg (by omega), if_neg (by omega), Int.sign_eq_one_of_pos hpos]

theorem signInt_eq_neg_one_zero_or_one (x : Int) : signInt x = -1 ∨ signInt x = 0 ∨ signInt x = 1 := by
  unfold signInt
  split
  · exact .inl rfl
  · split
    · exact .inr (.inl rfl)
    · exact .inr (.inr rfl)

theorem signInt_mul (r c : Int) : signInt (r * c) = signInt r * signInt c := by
  rw [signInt_eq_sign, signInt_eq_sign, signInt_eq_sign, Int.sign_mul]

theorem signInt_eq_of_mul_pos {r c : Int} (h : 0 < r * c) : signInt r = signInt c := by
  have hprod : signInt r * signInt c = 1 := by
    rw [← signInt_mul, signInt_eq_sign, Int.sign_eq_one_of_pos h]
  rcases signInt_eq_neg_one_zero_or_one r with hr | hr | hr
  all_goals rw [hr] at hprod ⊢; omega

theorem signInt_ne_of_mul_neg {r c : Int} (h : r * c < 0) : signInt r ≠ signInt c := by
  intro heq
  have hprod : signInt c * signInt c = -1 := by
    calc signInt c * signInt c = signInt (r * c) := by rw [signInt_mul, heq]
      _ = -1 := by rw [signInt_eq_sign, Int.sign_eq_neg_one_of_neg h]
  rcases signInt_eq_neg_one_zero_or_one c with hc | hc | hc
  all_goals rw [hc] at hprod; exact absurd hprod (by decide)

theorem Permit.halts_eq_decide (permit : Permit) : permit.halts = decide (permit = .stopped ∨ permit = .tripped) := by
  cases permit <;> rfl

/-! ### The deadband (R50) -/

/-- The magnitude that the deadband stage gives to an input of magnitude `a` beyond it (R50). -/
def deadbandMagnitude (db a : Nat) : Nat := (a - db) * 1000 / (1000 - db)

theorem deadband_within {db : Nat} {p : Int} (h : p.natAbs ≤ db) : deadband db p = 0 := if_pos h

theorem deadband_beyond {db : Nat} {p : Int} (h : db < p.natAbs) :
    deadband db p = p.sign * (deadbandMagnitude db p.natAbs : Int) := by
  rw [deadband, if_neg (Nat.not_le.mpr h), signInt_eq_sign]
  rfl

theorem natAbs_deadband {db : Nat} {p : Int} (h : db < p.natAbs) :
    (deadband db p).natAbs = deadbandMagnitude db p.natAbs := by
  have hne : p ≠ 0 := Int.natAbs_ne_zero.mp (Nat.ne_zero_of_lt h)
  rw [deadband_beyond h, Int.natAbs_mul, Int.natAbs_sign_of_ne_zero hne, Nat.one_mul, Int.natAbs_natCast]

/-- The least step beyond the deadband is stretched to at least 1. -/
theorem one_le_deadbandMagnitude {db a : Nat} (h : db < a) (ha : a ≤ 1000) : 1 ≤ deadbandMagnitude db a :=
  (Nat.one_le_div_iff (by omega)).mpr (by omega)

theorem deadbandMagnitude_le {db a : Nat} (ha : a ≤ 1000) : deadbandMagnitude db a ≤ 1000 :=
  Nat.div_le_of_le_mul (Nat.mul_le_mul_right 1000 (Nat.sub_le_sub_right ha db))

theorem deadbandMagnitude_full {db : Nat} (h : db < 1000) : deadbandMagnitude db 1000 = 1000 :=
  Nat.mul_div_cancel_left 1000 (Nat.sub_pos_of_lt h)

theorem deadbandMagnitude_zero (a : Nat) : deadbandMagnitude 0 a = a := Nat.mul_div_cancel a (by decide)

theorem natAbs_deadband_le (db : Nat) {p : Int} (h : p.natAbs ≤ 1000) : (deadband db p).natAbs ≤ 1000 := by
  rcases Nat.lt_or_ge db p.natAbs with hbeyond | hwithin
  · exact natAbs_deadband hbeyond ▸ deadbandMagnitude_le h
  · rw [deadband_within hwithin]; decide

/-- The stage keeps an input whose magnitude it keeps, since it keeps every sign. -/
theorem deadband_eq_self {db : Nat} {p : Int} (h : db < p.natAbs) (hmag : deadbandMagnitude db p.natAbs = p.natAbs) :
    deadband db p = p := by
  rw [deadband_beyond h, hmag, Int.sign_mul_natAbs]

theorem deadband_full {db : Nat} {p : Int} (h : db < 1000) (hp : p.natAbs = 1000) : deadband db p = p :=
  deadband_eq_self (hp ▸ h) (hp ▸ deadbandMagnitude_full h)

theorem deadband_zero (p : Int) : deadband 0 p = p := by
  rcases Nat.eq_zero_or_pos p.natAbs with hzero | hpos
  · rw [deadband_within (Nat.le_of_eq hzero), Int.natAbs_eq_zero.mp hzero]
  · exact deadband_eq_self hpos (deadbandMagnitude_zero _)

/-- Settles O17, from what becomes of a magnitude beyond the deadband. Of the bound on the deadband only that it is below
full travel is used. -/
theorem deadbandRule : Obligations.DeadbandRule := by
  intro db p hdb hlo hhi
  have hp : p.natAbs ≤ 1000 := by omega
  have hrange := natAbs_deadband_le db hp
  refine ⟨deadband_within, deadband_beyond, by omega, fun hbeyond => ?_, deadband_full (by omega), ?_⟩
  · exact natAbs_deadband hbeyond ▸ one_le_deadbandMagnitude hbeyond hp
  · rintro rfl
    exact deadband_zero p

/-! ### Rounding and saturation (R43, R51, R52) -/

theorem Term.value_eq (t : Term) :
    t.value = (if t.minus then (-1 : Int) else 1) * ((2 ^ (12 - t.exp) : Nat) : Int) := by
  unfold Term.value
  split
  · rw [Int.neg_one_mul]
  · rw [Int.one_mul]

theorem coeffValue_eq_unitsOf : coeffValue = unitsOf := by
  funext c
  exact congrArg List.sum (List.map_congr_left fun t _ => t.value_eq)

/-- Half a unit is added to the magnitude, so that the quotient is the nearest and a tie goes away from zero. -/
theorem roundedUnits_roundUnits (x : Int) : RoundedUnits x (roundUnits x) := by
  unfold RoundedUnits roundUnits
  rw [signInt_eq_sign]
  rcases Int.lt_trichotomy x 0 with hneg | rfl | hpos
  · rw [Int.sign_eq_neg_one_of_neg hneg]; omega
  · decide
  · rw [Int.sign_eq_one_of_pos hpos]; omega

theorem roundedUnits_gainRounded (gain : List Term) (d : Int) :
    RoundedUnits (d * unitsOf gain) (gainRounded gain d) := by
  rw [gainRounded, coeffValue_eq_unitsOf]
  exact roundedUnits_roundUnits _

theorem roundedUnits_filterRounded (taps : List (List Term)) (history : List Int) :
    RoundedUnits (List.zipWith (fun tap x => unitsOf tap * x) taps history).sum (filterRounded taps history) := by
  rw [filterRounded, coeffValue_eq_unitsOf]
  exact roundedUnits_roundUnits _

theorem saturates_iff (x : Int) : saturates x = true ↔ x < -1000 ∨ 1000 < x := by
  rw [saturates, decide_eq_true_iff, limitMille, limitInt]
  split
  · omega
  · split <;> omega

theorem countSat_saturates (n : Nat) (x : Int) :
    countSat n (saturates x) = if x < -1000 ∨ 1000 < x then min (n + 1) 65535 else n := by
  simp only [countSat, saturates_iff]

/-! ### The rate limiter (R57) -/

theorem moved_moveToward (r c : Int) (step : Nat) : Moved r c step (moveToward r c step) := by
  unfold moveToward
  refine ⟨fun hreach => if_pos hreach, fun hshort => ?_⟩
  rw [if_neg (Nat.not_le.mpr hshort)]
  rcases Int.lt_or_le r c with hlt | hge
  · rw [if_pos hlt, Int.sign_eq_one_of_pos (by omega), Int.one_mul]
  · rw [if_neg (by omega), Int.sign_eq_neg_one_of_neg (by omega)]; omega

section RateLimit
variable {r c : Int} (up down : Nat)

theorem rateLimit_self (r : Int) : rateLimit r r up down = r := if_pos rfl

theorem rateLimit_growing (hsign : r = 0 ∨ 0 < r * c) (hmag : r.natAbs < c.natAbs) :
    rateLimit r c up down = moveToward r c up := by
  have hne : r ≠ c := by rintro rfl; exact Nat.lt_irrefl _ hmag
  have hgrows : r = 0 ∨ (signInt r = signInt c ∧ r.natAbs < c.natAbs) :=
    hsign.imp_right fun h => ⟨signInt_eq_of_mul_pos h, hmag⟩
  rw [rateLimit, if_neg hne, if_pos hgrows]

theorem rateLimit_shrinking (hsign : c = 0 ∨ 0 < r * c) (hmag : c.natAbs < r.natAbs) :
    rateLimit r c up down = moveToward r c down := by
  have hne : r ≠ c := by rintro rfl; exact Nat.lt_irrefl _ hmag
  have hshrinks : ¬(r = 0 ∨ (signInt r = signInt c ∧ r.natAbs < c.natAbs)) := by omega
  rw [rateLimit, if_neg hne, if_neg hshrinks, if_pos (hsign.imp_right signInt_eq_of_mul_pos)]

/-- Across 0 the limiter moves toward 0 first, by the shrinking step. -/
theorem rateLimit_reversing (h : r * c < 0) : rateLimit r c up down = moveToward r 0 down := by
  have hsigns := signInt_ne_of_mul_neg h
  have hr : r ≠ 0 := fun hzero => Int.ne_of_lt h (by rw [hzero, Int.zero_mul])
  have hc : c ≠ 0 := fun hzero => Int.ne_of_lt h (by rw [hzero, Int.mul_zero])
  have hne : r ≠ c := fun heq => hsigns (congrArg signInt heq)
  simp only [rateLimit, hne, hr, hc, hsigns, false_and, or_self, if_false]

end RateLimit

/-! ### One sample, item by item (R47 to R61) -/

theorem armTest_iff (ch : Channel) (permit : Permit) (lost : Bool) :
    armTest ch permit lost = true ↔
      ch.armed = true ∨ (lost = false ∧ permit.halts = false ∧ ch.latched.natAbs ≤ ch.params.db) := by
  simp [armTest, and_assoc]

/-- The gain stage of a sample before its limit (R47 to R51). -/
def sampledGain (ch : Channel) (permit : Permit) (lost : Bool) : Int :=
  gainRounded ch.params.gain (deadband ch.params.db (chainInput ch (armTest ch permit lost) permit lost))

/-- The history of a sample before the trip stage (R52). -/
def sampledHistory (ch : Channel) (permit : Permit) (lost : Bool) : List Int :=
  pushHistory (limitMille (sampledGain ch permit lost)) ch.history

/-- The filter stage of a sample before its limit (R52). -/
def sampledFilter (ch : Channel) (permit : Permit) (lost : Bool) : Int :=
  filterRounded ch.params.taps (sampledHistory ch permit lost)

section Sample
variable (ch : Channel) (permit : Permit) (pos neg : Nat) (lost released : Bool)

@[simp] theorem sampleChannel_params : (sampleChannel ch permit pos neg lost released).params = ch.params := rfl

@[simp] theorem sampleChannel_latched : (sampleChannel ch permit pos neg lost released).latched = ch.latched := rfl

@[simp] theorem sampleChannel_armed :
    (sampleChannel ch permit pos neg lost released).armed = armTest ch permit lost := rfl

@[simp] theorem sampleChannel_y :
    (sampleChannel ch permit pos neg lost released).y = limitMille (sampledFilter ch permit lost) := rfl

theorem sampleChannel_c :
    (sampleChannel ch permit pos neg lost released).c =
      capTarget permit pos neg (sampleChannel ch permit pos neg lost released).y := rfl

theorem sampleChannel_peak :
    (sampleChannel ch permit pos neg lost released).peak =
      max ch.peak (sampleChannel ch permit pos neg lost released).y.natAbs := rfl

theorem sampleChannel_demand_iff :
    (sampleChannel ch permit pos neg lost released).demand = true ↔
      (sampleChannel ch permit pos neg lost released).c ≠ 0 := decide_eq_true_iff

theorem sampleChannel_sats :
    (sampleChannel ch permit pos neg lost released).sats =
      countSat (countSat ch.sats (saturates (sampledGain ch permit lost))) (saturates (sampledFilter ch permit lost)) := rfl

@[simp] theorem sampleChannel_history :
    (sampleChannel ch permit pos neg lost released).history =
      if permit = .tripped then List.replicate 8 0 else sampledHistory ch permit lost := rfl

theorem sampleChannel_r :
    (sampleChannel ch permit pos neg lost released).r =
      if permit = .tripped ∨ released = false then 0
      else limitToCaps pos neg (rateLimit ch.r (sampleChannel ch permit pos neg lost released).c ch.params.aUp
        (downStep ch.params permit)) := rfl

theorem sampleChannel_r_tripped : (sampleChannel ch .tripped pos neg lost released).r = 0 := by
  rw [sampleChannel_r, if_pos (.inl rfl)]

theorem sampleChannel_r_unreleased : (sampleChannel ch permit pos neg lost false).r = 0 := by
  rw [sampleChannel_r, if_pos (.inr rfl)]

/-- The hard clamp (R59), where neither the trip stage nor the brake gate acts. -/
theorem sampleChannel_r_clamped {permit : Permit} (h : permit ≠ .tripped) :
    (sampleChannel ch permit pos neg lost true).r =
      limitToCaps pos neg (rateLimit ch.r (sampleChannel ch permit pos neg lost true).c ch.params.aUp
        (downStep ch.params permit)) := by
  simp [sampleChannel_r, h]

/-- The brake gate touches the published reference alone (R61). -/
theorem sampleChannel_unreleased :
    sampleChannel ch permit pos neg lost false = { sampleChannel ch permit pos neg lost true with r := 0 } := by
  simp [sampleChannel]

/-- The input of the chain (R47) for the armed flag that the sample leaves. -/
theorem chainInput_sampled :
    chainInput ch (armTest ch permit lost) permit lost =
      if lost || !(sampleChannel ch permit pos neg lost released).armed ||
        decide (permit = .stopped ∨ permit = .tripped) then 0 else ch.latched := by
  rw [chainInput, Permit.halts_eq_decide, sampleChannel_armed]

theorem roundedUnits_sampledGain :
    RoundedUnits (deadband ch.params.db (chainInput ch (armTest ch permit lost) permit lost) * unitsOf ch.params.gain)
      (sampledGain ch permit lost) := roundedUnits_gainRounded _ _

theorem roundedUnits_sampledFilter :
    RoundedUnits (List.zipWith (fun tap x => unitsOf tap * x) ch.params.taps (sampledHistory ch permit lost)).sum
      (sampledFilter ch permit lost) := roundedUnits_filterRounded _ _

end Sample

/-- Settles O18: the sample's items one by one, each from the lemma of its stage, and the rate limiter's four cases. -/
theorem sampleRunsTheChain : Obligations.SampleRunsTheChain := by
  refine ⟨fun ch permit pos neg lost released => ?reference, fun ch permit pos neg lost released => ?stages,
    fun r c up down => ?limiter⟩
  case reference =>
    refine ⟨sampleChannel_r_bounds ch permit pos neg lost released, ?clamp, ?trip, ?gate⟩
    case clamp =>
      rintro huntripped rfl
      exact sampleChannel_r_clamped ch pos neg lost huntripped
    case trip =>
      rintro rfl
      exact ⟨sampleChannel_r_tripped ch pos neg lost released,
        (sampleChannel_history ch .tripped pos neg lost released).trans (if_pos rfl)⟩
    case gate =>
      rintro rfl
      exact ⟨sampleChannel_r_unreleased ch permit pos neg lost, sampleChannel_unreleased ch permit pos neg lost⟩
  case stages =>
    refine ⟨?arm, ⟨sampledGain ch permit lost, sampledFilter ch permit lost, ?gain,
        roundedUnits_sampledFilter ch permit lost, ?history, sampleChannel_y ch permit pos neg lost released, ?sats⟩,
      sampleChannel_peak ch permit pos neg lost released, ?target, sampleChannel_demand_iff ch permit pos neg lost released,
      sampleChannel_latched ch permit pos neg lost released, sampleChannel_params ch permit pos neg lost released⟩
    case arm => rw [sampleChannel_armed, armTest_iff, Permit.halts_eq_decide]
    case gain =>
      rw [← chainInput_sampled]
      exact roundedUnits_sampledGain ch permit lost
    case history =>
      exact fun huntripped => (sampleChannel_history ch permit pos neg lost released).trans (if_neg huntripped)
    case sats => rw [sampleChannel_sats, countSat_saturates, countSat_saturates]
    case target =>
      rw [sampleChannel_c, capTarget, Permit.halts_eq_decide]
      rfl
  case limiter =>
    refine ⟨?still, fun hsign hmag => ?grow, fun hsign hmag => ?shrink, fun hsigns => ?reverse⟩
    case still =>
      rintro rfl
      exact rateLimit_self up down r
    case grow => exact rateLimit_growing up down hsign hmag ▸ moved_moveToward r c up
    case shrink => exact rateLimit_shrinking up down hsign hmag ▸ moved_moveToward r c down
    case reverse => exact rateLimit_reversing up down hsigns ▸ moved_moveToward r 0 down

end Sys2Proof.Machine
end

section
/-! SUPPORT. The shared walk references (R114): what becomes of r on each side, and the bound that both sides keep. -/

namespace Sys2Proof.Machine
open Sys2Proof

/-! ### Between 0 and r -/

/-- A number lies between 0 and r: no greater in magnitude, and nowhere on the other side of 0. -/
def BetweenZeroAnd (r x : Int) : Prop := x.natAbs ≤ r.natAbs ∧ (0 ≤ r → 0 ≤ x) ∧ (r ≤ 0 → x ≤ 0)

theorem betweenZeroAnd_self (r : Int) : BetweenZeroAnd r r := ⟨Nat.le_refl _, id, id⟩

/-- The sign of r with a magnitude no greater than its own stays between. -/
theorem betweenZeroAnd_sign_mul {r : Int} {a : Nat} (h : a ≤ r.natAbs) : BetweenZeroAnd r (r.sign * (a : Int)) := by
  unfold BetweenZeroAnd
  rcases Int.lt_trichotomy r 0 with hneg | rfl | hpos
  · rw [Int.sign_eq_neg_one_of_neg hneg]; omega
  · rw [Int.sign_zero, Int.zero_mul]; omega
  · rw [Int.sign_eq_one_of_pos hpos]; omega

/-! ### The cases of the split (R114) -/

section Split
variable {p : MachineParams} {r d : Int}

/-- The leading side's reference: r reduced in magnitude by the trim. -/
def slowedReference (p : MachineParams) (r d : Int) : Int := r.sign * ((r.natAbs - trimOf p r d : Nat) : Int)

theorem betweenZeroAnd_slowedReference (p : MachineParams) (r d : Int) : BetweenZeroAnd r (slowedReference p r d) :=
  betweenZeroAnd_sign_mul (Nat.sub_le _ _)

theorem splitWalk_none (p : MachineParams) (r : Int) : splitWalk p r none = (r, r) := rfl

theorem splitWalk_within (h : r = 0 ∨ d.natAbs ≤ p.syncTol) : splitWalk p r (some d) = (r, r) := if_pos h

theorem splitWalk_beyond (hr : r ≠ 0) (hd : p.syncTol < d.natAbs) :
    splitWalk p r (some d) =
      if (0 < r ∧ 0 < d) ∨ (r < 0 ∧ d < 0) then (slowedReference p r d, r) else (r, slowedReference p r d) := by
  have hout : ¬(r = 0 ∨ d.natAbs ≤ p.syncTol) := by omega
  rw [slowedReference, ← signInt_eq_sign]
  exact if_neg hout

theorem splitWalk_leftLeads (hd : p.syncTol < d.natAbs) (hlead : (0 < r ∧ 0 < d) ∨ (r < 0 ∧ d < 0)) :
    splitWalk p r (some d) = (slowedReference p r d, r) := by
  rw [splitWalk_beyond (by omega) hd, if_pos hlead]

theorem splitWalk_rightLeads (hd : p.syncTol < d.natAbs) (hlead : (0 < r ∧ d < 0) ∨ (r < 0 ∧ 0 < d)) :
    splitWalk p r (some d) = (r, slowedReference p r d) := by
  rw [splitWalk_beyond (by omega) hd, if_neg (by omega)]

end Split

/-- Both sides take r, or one of the two takes it slowed. -/
theorem splitWalk_cases (p : MachineParams) (r : Int) (diff : Option Int) :
    splitWalk p r diff = (r, r) ∨
      ∃ d, splitWalk p r diff = (slowedReference p r d, r) ∨ splitWalk p r diff = (r, slowedReference p r d) := by
  cases diff with
  | none => exact .inl (splitWalk_none p r)
  | some d =>
    by_cases hwithin : r = 0 ∨ d.natAbs ≤ p.syncTol
    · exact .inl (splitWalk_within hwithin)
    · refine .inr ⟨d, ?_⟩
      rw [splitWalk_beyond (by omega) (by omega)]
      split
      · exact .inl rfl
      · exact .inr rfl

theorem splitWalk_between (p : MachineParams) (r : Int) (diff : Option Int) :
    BetweenZeroAnd r (splitWalk p r diff).1 ∧ BetweenZeroAnd r (splitWalk p r diff).2 := by
  rcases splitWalk_cases p r diff with heq | ⟨d, heq | heq⟩
  · rw [heq]; exact ⟨betweenZeroAnd_self r, betweenZeroAnd_self r⟩
  · rw [heq]; exact ⟨betweenZeroAnd_slowedReference p r d, betweenZeroAnd_self r⟩
  · rw [heq]; exact ⟨betweenZeroAnd_self r, betweenZeroAnd_slowedReference p r d⟩

/-! ### The references in the state and in the frame (R114) -/

theorem handWalkReference_walkRefs (s : State) :
    ((handWalkReference s).walk.walkL, (handWalkReference s).walk.walkR) =
      splitWalk s.machine s.channels.walk.r s.walk.diff := rfl

theorem zeroReference_walk_walkRefs (s : State) :
    (zeroReference .walk s).walk.walkL = 0 ∧ (zeroReference .walk s).walk.walkR = 0 := ⟨rfl, rfl⟩

theorem length_si16 (x : Int) : (si16 x).length = 2 := rfl

/-- Three references of two bytes each come before the walk references. -/
theorem driveReferenceBody_walkRefs (s : State) :
    ((driveReferenceBody s).drop 6).take 4 = si16 s.walk.walkL ++ si16 s.walk.walkR := by
  have hbody : driveReferenceBody s =
      (si16 s.channels.hoist.r ++ si16 s.channels.drag.r ++ si16 s.channels.swing.r) ++
        ((si16 s.walk.walkL ++ si16 s.walk.walkR) ++ [motionSetByte (releaseRequests s), byteOf s.ctl.mode.code]) := by
    simp only [driveReferenceBody, List.append_assoc]
  rw [hbody, List.drop_left' (by simp only [List.length_append, length_si16]),
    List.take_left' (by simp only [List.length_append, length_si16])]

/-- Settles O27: where the references stand, the cases of the split, and its bound. -/
theorem walkReferenceIsShared : Obligations.WalkReferenceIsShared := by
  refine ⟨fun s => ⟨handWalkReference_walkRefs s, (zeroReference_walk_walkRefs s).1, (zeroReference_walk_walkRefs s).2,
    driveReferenceBody_walkRefs s⟩, fun p r diff => ⟨?undefined, ?defined, ?bound⟩⟩
  case undefined =>
    rintro rfl
    exact splitWalk_none p r
  case defined =>
    rintro d rfl
    exact ⟨splitWalk_within, fun _ hbeyond => ⟨splitWalk_leftLeads hbeyond, splitWalk_rightLeads hbeyond⟩⟩
  case bound =>
    obtain ⟨hleft, hright⟩ := splitWalk_between p r diff
    rintro x (rfl | rfl)
    · exact hleft
    · exact hright

end Sys2Proof.Machine
end

section
/-! SUPPORT. The lamp's table of states over its mapped, unshelved alarms (R150), and what the outputs follow (R151, R153,
R157, R158). -/

namespace Sys2Proof.Machine
open Sys2Proof

/-! ### The rows of the lamp table (R150) -/

/-- Some mapped alarm that is not shelved meets a condition on its state and number. -/
def MappedAlarm (s : State) (lamp : Fin 48) (q : AlarmState → Fin 64 → Prop) : Prop :=
  ∃ n ∈ s.ann.lampMap[lamp], (s.alarms.runs[n]).shelvedUntil = none ∧ q (s.alarms.runs[n]).state n

/-- The row of FAST. -/
def FastRow (s : State) (lamp : Fin 48) : Prop := MappedAlarm s lamp (fun st _ => st = .raised)

/-- The row of SLOW: the mark counts outside NORMAL only. -/
def SlowRow (s : State) (lamp : Fin 48) : Prop :=
  MappedAlarm s lamp (fun st n => st = .returned ∨ (s.alarms.firstOut = some n ∧ st ≠ .normal))

/-- The row of STEADY. -/
def SteadyRow (s : State) (lamp : Fin 48) : Prop := MappedAlarm s lamp (fun st _ => st = .held ∨ st = .latched)

/-- A test over the shown alarms of a lamp asks whether some mapped, unshelved alarm passes it. -/
theorem any_shown_iff (s : State) (lamp : Fin 48) (test : Fin 64 → Bool) (q : AlarmState → Fin 64 → Prop)
    (htest : ∀ n, test n = true ↔ q (s.alarms.runs[n]).state n) :
    (s.ann.lampMap[lamp].filter (fun n => (s.alarms.runs[n]).shelvedUntil.isNone)).any test = true ↔
      MappedAlarm s lamp q := by
  simp only [List.any_eq_true, List.mem_filter, Option.isNone_iff_eq_none, htest, and_assoc, MappedAlarm]

open Classical in
/-- The lamp's state is read off the table row by row, from the top. -/
theorem lampState_eq_firstRow (s : State) (lamp : Fin 48) :
    lampState s lamp =
      if FastRow s lamp then .fast else if SlowRow s lamp then .slow else if SteadyRow s lamp then .steady else .off := by
  unfold lampState
  refine ite_congr (propext (any_shown_iff _ _ _ _ fun n => ?fast)) (fun _ => rfl) fun _ =>
    ite_congr (propext (any_shown_iff _ _ _ _ fun n => ?slow)) (fun _ => rfl) fun _ =>
    ite_congr (propext (any_shown_iff _ _ _ _ fun n => ?steady)) (fun _ => rfl) fun _ => rfl
  case fast => exact decide_eq_true_iff
  case slow => simp only [Bool.or_eq_true, Bool.and_eq_true, decide_eq_true_iff]
  case steady => simp only [Bool.or_eq_true, decide_eq_true_iff]

theorem lampState_of_fastRow {s : State} {lamp : Fin 48} (hfast : FastRow s lamp) : lampState s lamp = .fast := by
  rw [lampState_eq_firstRow, if_pos hfast]

theorem lampState_of_slowRow {s : State} {lamp : Fin 48} (hfast : ¬FastRow s lamp) (hslow : SlowRow s lamp) :
    lampState s lamp = .slow := by
  rw [lampState_eq_firstRow, if_neg hfast, if_pos hslow]

theorem lampState_of_steadyRow {s : State} {lamp : Fin 48} (hfast : ¬FastRow s lamp) (hslow : ¬SlowRow s lamp)
    (hsteady : SteadyRow s lamp) : lampState s lamp = .steady := by
  rw [lampState_eq_firstRow, if_neg hfast, if_neg hslow, if_pos hsteady]

theorem lampState_of_noRow {s : State} {lamp : Fin 48} (hfast : ¬FastRow s lamp) (hslow : ¬SlowRow s lamp)
    (hsteady : ¬SteadyRow s lamp) : lampState s lamp = .off := by
  rw [lampState_eq_firstRow, if_neg hfast, if_neg hslow, if_neg hsteady]

/-- Each state stands exactly where its row holds and no row above it does. -/
theorem lampState_iff_firstRow (s : State) (lamp : Fin 48) :
    (lampState s lamp = .fast ↔ FastRow s lamp) ∧ (lampState s lamp = .slow ↔ ¬FastRow s lamp ∧ SlowRow s lamp) ∧
      (lampState s lamp = .steady ↔ ¬FastRow s lamp ∧ ¬SlowRow s lamp ∧ SteadyRow s lamp) ∧
      (lampState s lamp = .off ↔ ¬FastRow s lamp ∧ ¬SlowRow s lamp ∧ ¬SteadyRow s lamp) := by
  by_cases hfast : FastRow s lamp
  · simp [lampState_of_fastRow hfast, hfast]
  by_cases hslow : SlowRow s lamp
  · simp [lampState_of_slowRow hfast hslow, hfast, hslow]
  by_cases hsteady : SteadyRow s lamp
  · simp [lampState_of_steadyRow hfast hslow hsteady, hfast, hslow, hsteady]
  · simp [lampState_of_noRow hfast hslow hsteady, hfast, hslow, hsteady]

theorem lampState_of_testAndDark (s : State) (lamp : Fin 48) (test dark : Bool) :
    lampState { s with ann := { s.ann with lampTest := test, lampDark := dark } } lamp = lampState s lamp := rfl

/-! ### The outputs of a running part (R151, R153, R157, R158) -/

theorem Gen.produces_iff (g : Gen) : g.produces = true ↔ g.running = true ∧ g.onHalf = true := by
  rw [Gen.produces, Bool.and_eq_true]

section Running
variable {s : State} (hrun : s.held = false)
include hrun

theorem lampOutput_of_lampTest (lamp : Fin 48) (htest : s.ann.lampTest = true) : lampOutput s lamp = true := by
  simp [lampOutput, hrun, htest]

theorem lampOutput_of_lampDark (lamp : Fin 48) (htest : s.ann.lampTest = false) (hdark : s.ann.lampDark = true) :
    lampOutput s lamp = false := by
  simp [lampOutput, hrun, htest, hdark]

section NoOverride
variable (htest : s.ann.lampTest = false) (hdark : s.ann.lampDark = false) {lamp : Fin 48}
include htest hdark

theorem lampOutput_of_fast (hstate : lampState s lamp = .fast) : lampOutput s lamp = s.ann.gens.fastLamp.produces := by
  simp [lampOutput, hrun, htest, hdark, hstate]

theorem lampOutput_of_slow (hstate : lampState s lamp = .slow) : lampOutput s lamp = s.ann.gens.slowLamp.produces := by
  simp [lampOutput, hrun, htest, hdark, hstate]

theorem lampOutput_of_steady (hstate : lampState s lamp = .steady) : lampOutput s lamp = true := by
  simp [lampOutput, hrun, htest, hdark, hstate]

theorem lampOutput_of_off (hstate : lampState s lamp = .off) : lampOutput s lamp = false := by
  simp [lampOutput, hrun, htest, hdark, hstate]

end NoOverride

theorem hornOutput_iff : hornOutput s = true ↔ s.ann.gens.horn.running = true ∧ s.ann.gens.horn.onHalf = true := by
  simp [hornOutput, hrun, Gen.produces_iff]

theorem beaconOutput_iff :
    beaconOutput s = true ↔
      s.swing.beaconRequest = true ∧ s.ann.gens.beacon.running = true ∧ s.ann.gens.beacon.onHalf = true := by
  simp [beaconOutput, hrun, Gen.produces_iff]

end Running

/-- Settles O42: the outputs of a running part override by override and state by state, then the table of states. -/
theorem lampStatesAndOutputs : Obligations.LampStatesAndOutputs := by
  refine ⟨fun s hrun => ⟨fun lamp => ⟨lampOutput_of_lampTest hrun lamp, lampOutput_of_lampDark hrun lamp,
    fun htest hdark => ⟨?fast, ?slow, lampOutput_of_steady hrun htest hdark, lampOutput_of_off hrun htest hdark⟩⟩,
    hornOutput_iff hrun, beaconOutput_iff hrun⟩, fun s lamp => ?states⟩
  case fast =>
    intro hstate
    rw [lampOutput_of_fast hrun htest hdark hstate, Gen.produces_iff]
  case slow =>
    intro hstate
    rw [lampOutput_of_slow hrun htest hdark hstate, Gen.produces_iff]
  case states =>
    obtain ⟨hfast, hslow, hsteady, hoff⟩ := lampState_iff_firstRow s lamp
    exact ⟨hfast, hslow, hsteady, hoff, lampState_of_testAndDark s lamp⟩

end Sys2Proof.Machine
end
